-- ==== Sys2Proof/Word.lean ====
section
/-! DEFINITION. The two word widths of the machine (00_scope.md R6): 8-bit registers and bytes, 16-bit
pairs and addresses. -/

namespace Sys2Proof

/-- An 8-bit register or memory byte (R6). -/
abbrev Byte := BitVec 8

/-- A 16-bit register pair or address (R6). -/
abbrev Word := BitVec 16

end Sys2Proof
end

