-- ==== Sys2Proof/Syntax.lean ====
section
/-! DEFINITION. Instruction syntax: the operand names of the decode tables (30_encoding.md R143) and `Instr`,
one constructor per row of spec/opcode_table.json. `n` is an unsigned 8-bit operand (`n8`), `e` a signed
8-bit offset (`e8`), `nn` a 16-bit operand (`n16`), as R141 and R148 form them. -/

namespace Sys2Proof

/-- The seven 8-bit general registers (10_state.md R20). -/
inductive Reg where
  | b | c | d | e | h | l | a
deriving DecidableEq, Repr

/-- An operand slot of `R8[i]` (R143): a register, or the memory byte at `HL` (slot 6). -/
inductive Slot where
  | reg (r : Reg)
  | hlInd
deriving DecidableEq, Repr

/-- The pairs of `RP[p]` (R143). -/
inductive Pair where
  | bc | de | hl | sp
deriving DecidableEq, Repr

/-- The pairs of `RP2[p]` (R143). -/
inductive StackPair where
  | bc | de | hl | af
deriving DecidableEq, Repr

/-- The condition codes `CC[i]` (R143, R180). -/
inductive Cond where
  | nz | z | nc | c
deriving DecidableEq, Repr

/-- The ALU operations `ALU[i]` (R143, R280). -/
inductive AluOp where
  | add | adc | sub | sbc | and | xor | or | cp
deriving DecidableEq, Repr

/-- The rotate and shift operations `ROT[i]` (R143, R316 to R323). -/
inductive RotOp where
  | rlc | rrc | rl | rr | sla | sra | swap | srl
deriving DecidableEq, Repr

/-- The instructions: one constructor per row of spec/opcode_table.json: first the rows with an operand,
then the others, each in the table's order. Each docstring has the spec's own spelling, the opcode byte(s) and
the rule. -/
inductive Instr where
  /-- `LD BC,n16`, 01, R240. -/
  | ldBcN16 (nn : Word)
  /-- `LD B,n8`, 06, R213. -/
  | ldBN8 (n : Byte)
  /-- `LD (n16),SP`, 08, R241. -/
  | ldIndN16Sp (nn : Word)
  /-- `LD C,n8`, 0E, R213. -/
  | ldCN8 (n : Byte)
  /-- `LD DE,n16`, 11, R240. -/
  | ldDeN16 (nn : Word)
  /-- `LD D,n8`, 16, R213. -/
  | ldDN8 (n : Byte)
  /-- `JR e8`, 18, R181. -/
  | jrE8 (e : Byte)
  /-- `LD E,n8`, 1E, R213. -/
  | ldEN8 (n : Byte)
  /-- `JR NZ,e8`, 20, R182. -/
  | jrNzE8 (e : Byte)
  /-- `LD HL,n16`, 21, R240. -/
  | ldHlN16 (nn : Word)
  /-- `LD H,n8`, 26, R213. -/
  | ldHN8 (n : Byte)
  /-- `JR Z,e8`, 28, R182. -/
  | jrZE8 (e : Byte)
  /-- `LD L,n8`, 2E, R213. -/
  | ldLN8 (n : Byte)
  /-- `JR NC,e8`, 30, R182. -/
  | jrNcE8 (e : Byte)
  /-- `LD SP,n16`, 31, R240. -/
  | ldSpN16 (nn : Word)
  /-- `LD (HL),n8`, 36, R214. -/
  | ldIndHlN8 (n : Byte)
  /-- `JR C,e8`, 38, R182. -/
  | jrCE8 (e : Byte)
  /-- `LD A,n8`, 3E, R213. -/
  | ldAN8 (n : Byte)
  /-- `JP NZ,n16`, C2, R184. -/
  | jpNzN16 (nn : Word)
  /-- `JP n16`, C3, R183. -/
  | jpN16 (nn : Word)
  /-- `CALL NZ,n16`, C4, R187. -/
  | callNzN16 (nn : Word)
  /-- `ADD A,n8`, C6, R281. -/
  | addAN8 (n : Byte)
  /-- `JP Z,n16`, CA, R184. -/
  | jpZN16 (nn : Word)
  /-- `CALL Z,n16`, CC, R187. -/
  | callZN16 (nn : Word)
  /-- `CALL n16`, CD, R186. -/
  | callN16 (nn : Word)
  /-- `ADC A,n8`, CE, R282. -/
  | adcAN8 (n : Byte)
  /-- `JP NC,n16`, D2, R184. -/
  | jpNcN16 (nn : Word)
  /-- `CALL NC,n16`, D4, R187. -/
  | callNcN16 (nn : Word)
  /-- `SUB A,n8`, D6, R283. -/
  | subAN8 (n : Byte)
  /-- `JP C,n16`, DA, R184. -/
  | jpCN16 (nn : Word)
  /-- `CALL C,n16`, DC, R187. -/
  | callCN16 (nn : Word)
  /-- `SBC A,n8`, DE, R284. -/
  | sbcAN8 (n : Byte)
  /-- `LDH (n8),A`, E0, R223. -/
  | ldhIndN8A (n : Byte)
  /-- `AND A,n8`, E6, R285. -/
  | andAN8 (n : Byte)
  /-- `ADD SP,e8`, E8, R267. -/
  | addSpE8 (e : Byte)
  /-- `LD (n16),A`, EA, R227. -/
  | ldIndN16A (nn : Word)
  /-- `XOR A,n8`, EE, R286. -/
  | xorAN8 (n : Byte)
  /-- `LDH A,(n8)`, F0, R224. -/
  | ldhAIndN8 (n : Byte)
  /-- `OR A,n8`, F6, R287. -/
  | orAN8 (n : Byte)
  /-- `LD HL,SP+e8`, F8, R243. -/
  | ldHlSpE8 (e : Byte)
  /-- `LD A,(n16)`, FA, R228. -/
  | ldAIndN16 (nn : Word)
  /-- `CP A,n8`, FE, R288. -/
  | cpAN8 (n : Byte)
  /-- `NOP`, 00, R340. -/
  | nop
  /-- `LD (BC),A`, 02, R215. -/
  | ldIndBcA
  /-- `INC BC`, 03, R264. -/
  | incBc
  /-- `INC B`, 04, R260. -/
  | incB
  /-- `DEC B`, 05, R262. -/
  | decB
  /-- `RLCA`, 07, R300. -/
  | rlca
  /-- `ADD HL,BC`, 09, R266. -/
  | addHlBc
  /-- `LD A,(BC)`, 0A, R219. -/
  | ldAIndBc
  /-- `DEC BC`, 0B, R265. -/
  | decBc
  /-- `INC C`, 0C, R260. -/
  | incC
  /-- `DEC C`, 0D, R262. -/
  | decC
  /-- `RRCA`, 0F, R301. -/
  | rrca
  /-- `STOP`, 10, R342. -/
  | stop
  /-- `LD (DE),A`, 12, R216. -/
  | ldIndDeA
  /-- `INC DE`, 13, R264. -/
  | incDe
  /-- `INC D`, 14, R260. -/
  | incD
  /-- `DEC D`, 15, R262. -/
  | decD
  /-- `RLA`, 17, R302. -/
  | rla
  /-- `ADD HL,DE`, 19, R266. -/
  | addHlDe
  /-- `LD A,(DE)`, 1A, R220. -/
  | ldAIndDe
  /-- `DEC DE`, 1B, R265. -/
  | decDe
  /-- `INC E`, 1C, R260. -/
  | incE
  /-- `DEC E`, 1D, R262. -/
  | decE
  /-- `RRA`, 1F, R303. -/
  | rra
  /-- `LD (HL+),A`, 22, R217. -/
  | ldIndHlIncA
  /-- `INC HL`, 23, R264. -/
  | incHl
  /-- `INC H`, 24, R260. -/
  | incH
  /-- `DEC H`, 25, R262. -/
  | decH
  /-- `DAA`, 27, R304. -/
  | daa
  /-- `ADD HL,HL`, 29, R266. -/
  | addHlHl
  /-- `LD A,(HL+)`, 2A, R221. -/
  | ldAIndHlInc
  /-- `DEC HL`, 2B, R265. -/
  | decHl
  /-- `INC L`, 2C, R260. -/
  | incL
  /-- `DEC L`, 2D, R262. -/
  | decL
  /-- `CPL`, 2F, R305. -/
  | cpl
  /-- `LD (HL-),A`, 32, R218. -/
  | ldIndHlDecA
  /-- `INC SP`, 33, R264. -/
  | incSp
  /-- `INC (HL)`, 34, R261. -/
  | incIndHl
  /-- `DEC (HL)`, 35, R263. -/
  | decIndHl
  /-- `SCF`, 37, R306. -/
  | scf
  /-- `ADD HL,SP`, 39, R266. -/
  | addHlSp
  /-- `LD A,(HL-)`, 3A, R222. -/
  | ldAIndHlDec
  /-- `DEC SP`, 3B, R265. -/
  | decSp
  /-- `INC A`, 3C, R260. -/
  | incA
  /-- `DEC A`, 3D, R262. -/
  | decA
  /-- `CCF`, 3F, R307. -/
  | ccf
  /-- `LD B,B`, 40, R210. -/
  | ldBB
  /-- `LD B,C`, 41, R210. -/
  | ldBC
  /-- `LD B,D`, 42, R210. -/
  | ldBD
  /-- `LD B,E`, 43, R210. -/
  | ldBE
  /-- `LD B,H`, 44, R210. -/
  | ldBH
  /-- `LD B,L`, 45, R210. -/
  | ldBL
  /-- `LD B,(HL)`, 46, R211. -/
  | ldBIndHl
  /-- `LD B,A`, 47, R210. -/
  | ldBA
  /-- `LD C,B`, 48, R210. -/
  | ldCB
  /-- `LD C,C`, 49, R210. -/
  | ldCC
  /-- `LD C,D`, 4A, R210. -/
  | ldCD
  /-- `LD C,E`, 4B, R210. -/
  | ldCE
  /-- `LD C,H`, 4C, R210. -/
  | ldCH
  /-- `LD C,L`, 4D, R210. -/
  | ldCL
  /-- `LD C,(HL)`, 4E, R211. -/
  | ldCIndHl
  /-- `LD C,A`, 4F, R210. -/
  | ldCA
  /-- `LD D,B`, 50, R210. -/
  | ldDB
  /-- `LD D,C`, 51, R210. -/
  | ldDC
  /-- `LD D,D`, 52, R210. -/
  | ldDD
  /-- `LD D,E`, 53, R210. -/
  | ldDE
  /-- `LD D,H`, 54, R210. -/
  | ldDH
  /-- `LD D,L`, 55, R210. -/
  | ldDL
  /-- `LD D,(HL)`, 56, R211. -/
  | ldDIndHl
  /-- `LD D,A`, 57, R210. -/
  | ldDA
  /-- `LD E,B`, 58, R210. -/
  | ldEB
  /-- `LD E,C`, 59, R210. -/
  | ldEC
  /-- `LD E,D`, 5A, R210. -/
  | ldED
  /-- `LD E,E`, 5B, R210. -/
  | ldEE
  /-- `LD E,H`, 5C, R210. -/
  | ldEH
  /-- `LD E,L`, 5D, R210. -/
  | ldEL
  /-- `LD E,(HL)`, 5E, R211. -/
  | ldEIndHl
  /-- `LD E,A`, 5F, R210. -/
  | ldEA
  /-- `LD H,B`, 60, R210. -/
  | ldHB
  /-- `LD H,C`, 61, R210. -/
  | ldHC
  /-- `LD H,D`, 62, R210. -/
  | ldHD
  /-- `LD H,E`, 63, R210. -/
  | ldHE
  /-- `LD H,H`, 64, R210. -/
  | ldHH
  /-- `LD H,L`, 65, R210. -/
  | ldHL
  /-- `LD H,(HL)`, 66, R211. -/
  | ldHIndHl
  /-- `LD H,A`, 67, R210. -/
  | ldHA
  /-- `LD L,B`, 68, R210. -/
  | ldLB
  /-- `LD L,C`, 69, R210. -/
  | ldLC
  /-- `LD L,D`, 6A, R210. -/
  | ldLD
  /-- `LD L,E`, 6B, R210. -/
  | ldLE
  /-- `LD L,H`, 6C, R210. -/
  | ldLH
  /-- `LD L,L`, 6D, R210. -/
  | ldLL
  /-- `LD L,(HL)`, 6E, R211. -/
  | ldLIndHl
  /-- `LD L,A`, 6F, R210. -/
  | ldLA
  /-- `LD (HL),B`, 70, R212. -/
  | ldIndHlB
  /-- `LD (HL),C`, 71, R212. -/
  | ldIndHlC
  /-- `LD (HL),D`, 72, R212. -/
  | ldIndHlD
  /-- `LD (HL),E`, 73, R212. -/
  | ldIndHlE
  /-- `LD (HL),H`, 74, R212. -/
  | ldIndHlH
  /-- `LD (HL),L`, 75, R212. -/
  | ldIndHlL
  /-- `HALT`, 76, R341. -/
  | halt
  /-- `LD (HL),A`, 77, R212. -/
  | ldIndHlA
  /-- `LD A,B`, 78, R210. -/
  | ldAB
  /-- `LD A,C`, 79, R210. -/
  | ldAC
  /-- `LD A,D`, 7A, R210. -/
  | ldAD
  /-- `LD A,E`, 7B, R210. -/
  | ldAE
  /-- `LD A,H`, 7C, R210. -/
  | ldAH
  /-- `LD A,L`, 7D, R210. -/
  | ldAL
  /-- `LD A,(HL)`, 7E, R211. -/
  | ldAIndHl
  /-- `LD A,A`, 7F, R210. -/
  | ldAA
  /-- `ADD A,B`, 80, R281. -/
  | addAB
  /-- `ADD A,C`, 81, R281. -/
  | addAC
  /-- `ADD A,D`, 82, R281. -/
  | addAD
  /-- `ADD A,E`, 83, R281. -/
  | addAE
  /-- `ADD A,H`, 84, R281. -/
  | addAH
  /-- `ADD A,L`, 85, R281. -/
  | addAL
  /-- `ADD A,(HL)`, 86, R281. -/
  | addAIndHl
  /-- `ADD A,A`, 87, R281. -/
  | addAA
  /-- `ADC A,B`, 88, R282. -/
  | adcAB
  /-- `ADC A,C`, 89, R282. -/
  | adcAC
  /-- `ADC A,D`, 8A, R282. -/
  | adcAD
  /-- `ADC A,E`, 8B, R282. -/
  | adcAE
  /-- `ADC A,H`, 8C, R282. -/
  | adcAH
  /-- `ADC A,L`, 8D, R282. -/
  | adcAL
  /-- `ADC A,(HL)`, 8E, R282. -/
  | adcAIndHl
  /-- `ADC A,A`, 8F, R282. -/
  | adcAA
  /-- `SUB A,B`, 90, R283. -/
  | subAB
  /-- `SUB A,C`, 91, R283. -/
  | subAC
  /-- `SUB A,D`, 92, R283. -/
  | subAD
  /-- `SUB A,E`, 93, R283. -/
  | subAE
  /-- `SUB A,H`, 94, R283. -/
  | subAH
  /-- `SUB A,L`, 95, R283. -/
  | subAL
  /-- `SUB A,(HL)`, 96, R283. -/
  | subAIndHl
  /-- `SUB A,A`, 97, R283. -/
  | subAA
  /-- `SBC A,B`, 98, R284. -/
  | sbcAB
  /-- `SBC A,C`, 99, R284. -/
  | sbcAC
  /-- `SBC A,D`, 9A, R284. -/
  | sbcAD
  /-- `SBC A,E`, 9B, R284. -/
  | sbcAE
  /-- `SBC A,H`, 9C, R284. -/
  | sbcAH
  /-- `SBC A,L`, 9D, R284. -/
  | sbcAL
  /-- `SBC A,(HL)`, 9E, R284. -/
  | sbcAIndHl
  /-- `SBC A,A`, 9F, R284. -/
  | sbcAA
  /-- `AND A,B`, A0, R285. -/
  | andAB
  /-- `AND A,C`, A1, R285. -/
  | andAC
  /-- `AND A,D`, A2, R285. -/
  | andAD
  /-- `AND A,E`, A3, R285. -/
  | andAE
  /-- `AND A,H`, A4, R285. -/
  | andAH
  /-- `AND A,L`, A5, R285. -/
  | andAL
  /-- `AND A,(HL)`, A6, R285. -/
  | andAIndHl
  /-- `AND A,A`, A7, R285. -/
  | andAA
  /-- `XOR A,B`, A8, R286. -/
  | xorAB
  /-- `XOR A,C`, A9, R286. -/
  | xorAC
  /-- `XOR A,D`, AA, R286. -/
  | xorAD
  /-- `XOR A,E`, AB, R286. -/
  | xorAE
  /-- `XOR A,H`, AC, R286. -/
  | xorAH
  /-- `XOR A,L`, AD, R286. -/
  | xorAL
  /-- `XOR A,(HL)`, AE, R286. -/
  | xorAIndHl
  /-- `XOR A,A`, AF, R286. -/
  | xorAA
  /-- `OR A,B`, B0, R287. -/
  | orAB
  /-- `OR A,C`, B1, R287. -/
  | orAC
  /-- `OR A,D`, B2, R287. -/
  | orAD
  /-- `OR A,E`, B3, R287. -/
  | orAE
  /-- `OR A,H`, B4, R287. -/
  | orAH
  /-- `OR A,L`, B5, R287. -/
  | orAL
  /-- `OR A,(HL)`, B6, R287. -/
  | orAIndHl
  /-- `OR A,A`, B7, R287. -/
  | orAA
  /-- `CP A,B`, B8, R288. -/
  | cpAB
  /-- `CP A,C`, B9, R288. -/
  | cpAC
  /-- `CP A,D`, BA, R288. -/
  | cpAD
  /-- `CP A,E`, BB, R288. -/
  | cpAE
  /-- `CP A,H`, BC, R288. -/
  | cpAH
  /-- `CP A,L`, BD, R288. -/
  | cpAL
  /-- `CP A,(HL)`, BE, R288. -/
  | cpAIndHl
  /-- `CP A,A`, BF, R288. -/
  | cpAA
  /-- `RET NZ`, C0, R189. -/
  | retNz
  /-- `POP BC`, C1, R245. -/
  | popBc
  /-- `PUSH BC`, C5, R244. -/
  | pushBc
  /-- `RST $00`, C7, R191. -/
  | rst00
  /-- `RET Z`, C8, R189. -/
  | retZ
  /-- `RET`, C9, R188. -/
  | ret
  /-- `PREFIX_CB`, CB, R315. -/
  | prefixCb
  /-- `RST $08`, CF, R191. -/
  | rst08
  /-- `RET NC`, D0, R189. -/
  | retNc
  /-- `POP DE`, D1, R245. -/
  | popDe
  /-- `ILLEGAL_D3`, D3, R343. -/
  | illegalD3
  /-- `PUSH DE`, D5, R244. -/
  | pushDe
  /-- `RST $10`, D7, R191. -/
  | rst10
  /-- `RET C`, D8, R189. -/
  | retC
  /-- `RETI`, D9, R190. -/
  | reti
  /-- `ILLEGAL_DB`, DB, R343. -/
  | illegalDB
  /-- `ILLEGAL_DD`, DD, R343. -/
  | illegalDD
  /-- `RST $18`, DF, R191. -/
  | rst18
  /-- `POP HL`, E1, R245. -/
  | popHl
  /-- `LDH (C),A`, E2, R225. -/
  | ldhIndCA
  /-- `ILLEGAL_E3`, E3, R343. -/
  | illegalE3
  /-- `ILLEGAL_E4`, E4, R343. -/
  | illegalE4
  /-- `PUSH HL`, E5, R244. -/
  | pushHl
  /-- `RST $20`, E7, R191. -/
  | rst20
  /-- `JP HL`, E9, R185. -/
  | jpHl
  /-- `ILLEGAL_EB`, EB, R343. -/
  | illegalEB
  /-- `ILLEGAL_EC`, EC, R343. -/
  | illegalEC
  /-- `ILLEGAL_ED`, ED, R343. -/
  | illegalED
  /-- `RST $28`, EF, R191. -/
  | rst28
  /-- `POP AF`, F1, R245. -/
  | popAf
  /-- `LDH A,(C)`, F2, R226. -/
  | ldhAIndC
  /-- `DI`, F3, R192. -/
  | di
  /-- `ILLEGAL_F4`, F4, R343. -/
  | illegalF4
  /-- `PUSH AF`, F5, R244. -/
  | pushAf
  /-- `RST $30`, F7, R191. -/
  | rst30
  /-- `LD SP,HL`, F9, R242. -/
  | ldSpHl
  /-- `EI`, FB, R193. -/
  | ei
  /-- `ILLEGAL_FC`, FC, R343. -/
  | illegalFC
  /-- `ILLEGAL_FD`, FD, R343. -/
  | illegalFD
  /-- `RST $38`, FF, R191. -/
  | rst38
  /-- `RLC B`, CB00, R316. -/
  | rlcB
  /-- `RLC C`, CB01, R316. -/
  | rlcC
  /-- `RLC D`, CB02, R316. -/
  | rlcD
  /-- `RLC E`, CB03, R316. -/
  | rlcE
  /-- `RLC H`, CB04, R316. -/
  | rlcH
  /-- `RLC L`, CB05, R316. -/
  | rlcL
  /-- `RLC (HL)`, CB06, R316. -/
  | rlcIndHl
  /-- `RLC A`, CB07, R316. -/
  | rlcA
  /-- `RRC B`, CB08, R317. -/
  | rrcB
  /-- `RRC C`, CB09, R317. -/
  | rrcC
  /-- `RRC D`, CB0A, R317. -/
  | rrcD
  /-- `RRC E`, CB0B, R317. -/
  | rrcE
  /-- `RRC H`, CB0C, R317. -/
  | rrcH
  /-- `RRC L`, CB0D, R317. -/
  | rrcL
  /-- `RRC (HL)`, CB0E, R317. -/
  | rrcIndHl
  /-- `RRC A`, CB0F, R317. -/
  | rrcA
  /-- `RL B`, CB10, R318. -/
  | rlB
  /-- `RL C`, CB11, R318. -/
  | rlC
  /-- `RL D`, CB12, R318. -/
  | rlD
  /-- `RL E`, CB13, R318. -/
  | rlE
  /-- `RL H`, CB14, R318. -/
  | rlH
  /-- `RL L`, CB15, R318. -/
  | rlL
  /-- `RL (HL)`, CB16, R318. -/
  | rlIndHl
  /-- `RL A`, CB17, R318. -/
  | rlA
  /-- `RR B`, CB18, R319. -/
  | rrB
  /-- `RR C`, CB19, R319. -/
  | rrC
  /-- `RR D`, CB1A, R319. -/
  | rrD
  /-- `RR E`, CB1B, R319. -/
  | rrE
  /-- `RR H`, CB1C, R319. -/
  | rrH
  /-- `RR L`, CB1D, R319. -/
  | rrL
  /-- `RR (HL)`, CB1E, R319. -/
  | rrIndHl
  /-- `RR A`, CB1F, R319. -/
  | rrA
  /-- `SLA B`, CB20, R320. -/
  | slaB
  /-- `SLA C`, CB21, R320. -/
  | slaC
  /-- `SLA D`, CB22, R320. -/
  | slaD
  /-- `SLA E`, CB23, R320. -/
  | slaE
  /-- `SLA H`, CB24, R320. -/
  | slaH
  /-- `SLA L`, CB25, R320. -/
  | slaL
  /-- `SLA (HL)`, CB26, R320. -/
  | slaIndHl
  /-- `SLA A`, CB27, R320. -/
  | slaA
  /-- `SRA B`, CB28, R321. -/
  | sraB
  /-- `SRA C`, CB29, R321. -/
  | sraC
  /-- `SRA D`, CB2A, R321. -/
  | sraD
  /-- `SRA E`, CB2B, R321. -/
  | sraE
  /-- `SRA H`, CB2C, R321. -/
  | sraH
  /-- `SRA L`, CB2D, R321. -/
  | sraL
  /-- `SRA (HL)`, CB2E, R321. -/
  | sraIndHl
  /-- `SRA A`, CB2F, R321. -/
  | sraA
  /-- `SWAP B`, CB30, R322. -/
  | swapB
  /-- `SWAP C`, CB31, R322. -/
  | swapC
  /-- `SWAP D`, CB32, R322. -/
  | swapD
  /-- `SWAP E`, CB33, R322. -/
  | swapE
  /-- `SWAP H`, CB34, R322. -/
  | swapH
  /-- `SWAP L`, CB35, R322. -/
  | swapL
  /-- `SWAP (HL)`, CB36, R322. -/
  | swapIndHl
  /-- `SWAP A`, CB37, R322. -/
  | swapA
  /-- `SRL B`, CB38, R323. -/
  | srlB
  /-- `SRL C`, CB39, R323. -/
  | srlC
  /-- `SRL D`, CB3A, R323. -/
  | srlD
  /-- `SRL E`, CB3B, R323. -/
  | srlE
  /-- `SRL H`, CB3C, R323. -/
  | srlH
  /-- `SRL L`, CB3D, R323. -/
  | srlL
  /-- `SRL (HL)`, CB3E, R323. -/
  | srlIndHl
  /-- `SRL A`, CB3F, R323. -/
  | srlA
  /-- `BIT 0,B`, CB40, R324. -/
  | bit0B
  /-- `BIT 0,C`, CB41, R324. -/
  | bit0C
  /-- `BIT 0,D`, CB42, R324. -/
  | bit0D
  /-- `BIT 0,E`, CB43, R324. -/
  | bit0E
  /-- `BIT 0,H`, CB44, R324. -/
  | bit0H
  /-- `BIT 0,L`, CB45, R324. -/
  | bit0L
  /-- `BIT 0,(HL)`, CB46, R324. -/
  | bit0IndHl
  /-- `BIT 0,A`, CB47, R324. -/
  | bit0A
  /-- `BIT 1,B`, CB48, R324. -/
  | bit1B
  /-- `BIT 1,C`, CB49, R324. -/
  | bit1C
  /-- `BIT 1,D`, CB4A, R324. -/
  | bit1D
  /-- `BIT 1,E`, CB4B, R324. -/
  | bit1E
  /-- `BIT 1,H`, CB4C, R324. -/
  | bit1H
  /-- `BIT 1,L`, CB4D, R324. -/
  | bit1L
  /-- `BIT 1,(HL)`, CB4E, R324. -/
  | bit1IndHl
  /-- `BIT 1,A`, CB4F, R324. -/
  | bit1A
  /-- `BIT 2,B`, CB50, R324. -/
  | bit2B
  /-- `BIT 2,C`, CB51, R324. -/
  | bit2C
  /-- `BIT 2,D`, CB52, R324. -/
  | bit2D
  /-- `BIT 2,E`, CB53, R324. -/
  | bit2E
  /-- `BIT 2,H`, CB54, R324. -/
  | bit2H
  /-- `BIT 2,L`, CB55, R324. -/
  | bit2L
  /-- `BIT 2,(HL)`, CB56, R324. -/
  | bit2IndHl
  /-- `BIT 2,A`, CB57, R324. -/
  | bit2A
  /-- `BIT 3,B`, CB58, R324. -/
  | bit3B
  /-- `BIT 3,C`, CB59, R324. -/
  | bit3C
  /-- `BIT 3,D`, CB5A, R324. -/
  | bit3D
  /-- `BIT 3,E`, CB5B, R324. -/
  | bit3E
  /-- `BIT 3,H`, CB5C, R324. -/
  | bit3H
  /-- `BIT 3,L`, CB5D, R324. -/
  | bit3L
  /-- `BIT 3,(HL)`, CB5E, R324. -/
  | bit3IndHl
  /-- `BIT 3,A`, CB5F, R324. -/
  | bit3A
  /-- `BIT 4,B`, CB60, R324. -/
  | bit4B
  /-- `BIT 4,C`, CB61, R324. -/
  | bit4C
  /-- `BIT 4,D`, CB62, R324. -/
  | bit4D
  /-- `BIT 4,E`, CB63, R324. -/
  | bit4E
  /-- `BIT 4,H`, CB64, R324. -/
  | bit4H
  /-- `BIT 4,L`, CB65, R324. -/
  | bit4L
  /-- `BIT 4,(HL)`, CB66, R324. -/
  | bit4IndHl
  /-- `BIT 4,A`, CB67, R324. -/
  | bit4A
  /-- `BIT 5,B`, CB68, R324. -/
  | bit5B
  /-- `BIT 5,C`, CB69, R324. -/
  | bit5C
  /-- `BIT 5,D`, CB6A, R324. -/
  | bit5D
  /-- `BIT 5,E`, CB6B, R324. -/
  | bit5E
  /-- `BIT 5,H`, CB6C, R324. -/
  | bit5H
  /-- `BIT 5,L`, CB6D, R324. -/
  | bit5L
  /-- `BIT 5,(HL)`, CB6E, R324. -/
  | bit5IndHl
  /-- `BIT 5,A`, CB6F, R324. -/
  | bit5A
  /-- `BIT 6,B`, CB70, R324. -/
  | bit6B
  /-- `BIT 6,C`, CB71, R324. -/
  | bit6C
  /-- `BIT 6,D`, CB72, R324. -/
  | bit6D
  /-- `BIT 6,E`, CB73, R324. -/
  | bit6E
  /-- `BIT 6,H`, CB74, R324. -/
  | bit6H
  /-- `BIT 6,L`, CB75, R324. -/
  | bit6L
  /-- `BIT 6,(HL)`, CB76, R324. -/
  | bit6IndHl
  /-- `BIT 6,A`, CB77, R324. -/
  | bit6A
  /-- `BIT 7,B`, CB78, R324. -/
  | bit7B
  /-- `BIT 7,C`, CB79, R324. -/
  | bit7C
  /-- `BIT 7,D`, CB7A, R324. -/
  | bit7D
  /-- `BIT 7,E`, CB7B, R324. -/
  | bit7E
  /-- `BIT 7,H`, CB7C, R324. -/
  | bit7H
  /-- `BIT 7,L`, CB7D, R324. -/
  | bit7L
  /-- `BIT 7,(HL)`, CB7E, R324. -/
  | bit7IndHl
  /-- `BIT 7,A`, CB7F, R324. -/
  | bit7A
  /-- `RES 0,B`, CB80, R325. -/
  | res0B
  /-- `RES 0,C`, CB81, R325. -/
  | res0C
  /-- `RES 0,D`, CB82, R325. -/
  | res0D
  /-- `RES 0,E`, CB83, R325. -/
  | res0E
  /-- `RES 0,H`, CB84, R325. -/
  | res0H
  /-- `RES 0,L`, CB85, R325. -/
  | res0L
  /-- `RES 0,(HL)`, CB86, R325. -/
  | res0IndHl
  /-- `RES 0,A`, CB87, R325. -/
  | res0A
  /-- `RES 1,B`, CB88, R325. -/
  | res1B
  /-- `RES 1,C`, CB89, R325. -/
  | res1C
  /-- `RES 1,D`, CB8A, R325. -/
  | res1D
  /-- `RES 1,E`, CB8B, R325. -/
  | res1E
  /-- `RES 1,H`, CB8C, R325. -/
  | res1H
  /-- `RES 1,L`, CB8D, R325. -/
  | res1L
  /-- `RES 1,(HL)`, CB8E, R325. -/
  | res1IndHl
  /-- `RES 1,A`, CB8F, R325. -/
  | res1A
  /-- `RES 2,B`, CB90, R325. -/
  | res2B
  /-- `RES 2,C`, CB91, R325. -/
  | res2C
  /-- `RES 2,D`, CB92, R325. -/
  | res2D
  /-- `RES 2,E`, CB93, R325. -/
  | res2E
  /-- `RES 2,H`, CB94, R325. -/
  | res2H
  /-- `RES 2,L`, CB95, R325. -/
  | res2L
  /-- `RES 2,(HL)`, CB96, R325. -/
  | res2IndHl
  /-- `RES 2,A`, CB97, R325. -/
  | res2A
  /-- `RES 3,B`, CB98, R325. -/
  | res3B
  /-- `RES 3,C`, CB99, R325. -/
  | res3C
  /-- `RES 3,D`, CB9A, R325. -/
  | res3D
  /-- `RES 3,E`, CB9B, R325. -/
  | res3E
  /-- `RES 3,H`, CB9C, R325. -/
  | res3H
  /-- `RES 3,L`, CB9D, R325. -/
  | res3L
  /-- `RES 3,(HL)`, CB9E, R325. -/
  | res3IndHl
  /-- `RES 3,A`, CB9F, R325. -/
  | res3A
  /-- `RES 4,B`, CBA0, R325. -/
  | res4B
  /-- `RES 4,C`, CBA1, R325. -/
  | res4C
  /-- `RES 4,D`, CBA2, R325. -/
  | res4D
  /-- `RES 4,E`, CBA3, R325. -/
  | res4E
  /-- `RES 4,H`, CBA4, R325. -/
  | res4H
  /-- `RES 4,L`, CBA5, R325. -/
  | res4L
  /-- `RES 4,(HL)`, CBA6, R325. -/
  | res4IndHl
  /-- `RES 4,A`, CBA7, R325. -/
  | res4A
  /-- `RES 5,B`, CBA8, R325. -/
  | res5B
  /-- `RES 5,C`, CBA9, R325. -/
  | res5C
  /-- `RES 5,D`, CBAA, R325. -/
  | res5D
  /-- `RES 5,E`, CBAB, R325. -/
  | res5E
  /-- `RES 5,H`, CBAC, R325. -/
  | res5H
  /-- `RES 5,L`, CBAD, R325. -/
  | res5L
  /-- `RES 5,(HL)`, CBAE, R325. -/
  | res5IndHl
  /-- `RES 5,A`, CBAF, R325. -/
  | res5A
  /-- `RES 6,B`, CBB0, R325. -/
  | res6B
  /-- `RES 6,C`, CBB1, R325. -/
  | res6C
  /-- `RES 6,D`, CBB2, R325. -/
  | res6D
  /-- `RES 6,E`, CBB3, R325. -/
  | res6E
  /-- `RES 6,H`, CBB4, R325. -/
  | res6H
  /-- `RES 6,L`, CBB5, R325. -/
  | res6L
  /-- `RES 6,(HL)`, CBB6, R325. -/
  | res6IndHl
  /-- `RES 6,A`, CBB7, R325. -/
  | res6A
  /-- `RES 7,B`, CBB8, R325. -/
  | res7B
  /-- `RES 7,C`, CBB9, R325. -/
  | res7C
  /-- `RES 7,D`, CBBA, R325. -/
  | res7D
  /-- `RES 7,E`, CBBB, R325. -/
  | res7E
  /-- `RES 7,H`, CBBC, R325. -/
  | res7H
  /-- `RES 7,L`, CBBD, R325. -/
  | res7L
  /-- `RES 7,(HL)`, CBBE, R325. -/
  | res7IndHl
  /-- `RES 7,A`, CBBF, R325. -/
  | res7A
  /-- `SET 0,B`, CBC0, R326. -/
  | set0B
  /-- `SET 0,C`, CBC1, R326. -/
  | set0C
  /-- `SET 0,D`, CBC2, R326. -/
  | set0D
  /-- `SET 0,E`, CBC3, R326. -/
  | set0E
  /-- `SET 0,H`, CBC4, R326. -/
  | set0H
  /-- `SET 0,L`, CBC5, R326. -/
  | set0L
  /-- `SET 0,(HL)`, CBC6, R326. -/
  | set0IndHl
  /-- `SET 0,A`, CBC7, R326. -/
  | set0A
  /-- `SET 1,B`, CBC8, R326. -/
  | set1B
  /-- `SET 1,C`, CBC9, R326. -/
  | set1C
  /-- `SET 1,D`, CBCA, R326. -/
  | set1D
  /-- `SET 1,E`, CBCB, R326. -/
  | set1E
  /-- `SET 1,H`, CBCC, R326. -/
  | set1H
  /-- `SET 1,L`, CBCD, R326. -/
  | set1L
  /-- `SET 1,(HL)`, CBCE, R326. -/
  | set1IndHl
  /-- `SET 1,A`, CBCF, R326. -/
  | set1A
  /-- `SET 2,B`, CBD0, R326. -/
  | set2B
  /-- `SET 2,C`, CBD1, R326. -/
  | set2C
  /-- `SET 2,D`, CBD2, R326. -/
  | set2D
  /-- `SET 2,E`, CBD3, R326. -/
  | set2E
  /-- `SET 2,H`, CBD4, R326. -/
  | set2H
  /-- `SET 2,L`, CBD5, R326. -/
  | set2L
  /-- `SET 2,(HL)`, CBD6, R326. -/
  | set2IndHl
  /-- `SET 2,A`, CBD7, R326. -/
  | set2A
  /-- `SET 3,B`, CBD8, R326. -/
  | set3B
  /-- `SET 3,C`, CBD9, R326. -/
  | set3C
  /-- `SET 3,D`, CBDA, R326. -/
  | set3D
  /-- `SET 3,E`, CBDB, R326. -/
  | set3E
  /-- `SET 3,H`, CBDC, R326. -/
  | set3H
  /-- `SET 3,L`, CBDD, R326. -/
  | set3L
  /-- `SET 3,(HL)`, CBDE, R326. -/
  | set3IndHl
  /-- `SET 3,A`, CBDF, R326. -/
  | set3A
  /-- `SET 4,B`, CBE0, R326. -/
  | set4B
  /-- `SET 4,C`, CBE1, R326. -/
  | set4C
  /-- `SET 4,D`, CBE2, R326. -/
  | set4D
  /-- `SET 4,E`, CBE3, R326. -/
  | set4E
  /-- `SET 4,H`, CBE4, R326. -/
  | set4H
  /-- `SET 4,L`, CBE5, R326. -/
  | set4L
  /-- `SET 4,(HL)`, CBE6, R326. -/
  | set4IndHl
  /-- `SET 4,A`, CBE7, R326. -/
  | set4A
  /-- `SET 5,B`, CBE8, R326. -/
  | set5B
  /-- `SET 5,C`, CBE9, R326. -/
  | set5C
  /-- `SET 5,D`, CBEA, R326. -/
  | set5D
  /-- `SET 5,E`, CBEB, R326. -/
  | set5E
  /-- `SET 5,H`, CBEC, R326. -/
  | set5H
  /-- `SET 5,L`, CBED, R326. -/
  | set5L
  /-- `SET 5,(HL)`, CBEE, R326. -/
  | set5IndHl
  /-- `SET 5,A`, CBEF, R326. -/
  | set5A
  /-- `SET 6,B`, CBF0, R326. -/
  | set6B
  /-- `SET 6,C`, CBF1, R326. -/
  | set6C
  /-- `SET 6,D`, CBF2, R326. -/
  | set6D
  /-- `SET 6,E`, CBF3, R326. -/
  | set6E
  /-- `SET 6,H`, CBF4, R326. -/
  | set6H
  /-- `SET 6,L`, CBF5, R326. -/
  | set6L
  /-- `SET 6,(HL)`, CBF6, R326. -/
  | set6IndHl
  /-- `SET 6,A`, CBF7, R326. -/
  | set6A
  /-- `SET 7,B`, CBF8, R326. -/
  | set7B
  /-- `SET 7,C`, CBF9, R326. -/
  | set7C
  /-- `SET 7,D`, CBFA, R326. -/
  | set7D
  /-- `SET 7,E`, CBFB, R326. -/
  | set7E
  /-- `SET 7,H`, CBFC, R326. -/
  | set7H
  /-- `SET 7,L`, CBFD, R326. -/
  | set7L
  /-- `SET 7,(HL)`, CBFE, R326. -/
  | set7IndHl
  /-- `SET 7,A`, CBFF, R326. -/
  | set7A
deriving DecidableEq, Repr

end Sys2Proof
end

