-- ==== Sys2Proof/Config.lean ====
section
/-! DEFINITION. The named parameters of 00_scope.md R7, as one record that a machine carries and no step
changes. `Config.spec` has the value R7 gives each of them. The cartridge parameters of R7 (variant, bank
counts, image) are in `Machine.Cart`; `RESET` (`Machine.ResetRecord`) and `INIT_MEM` (`Machine.InitMem`), which only
power-up reads, are arguments of `Machine.State.powerUp`. -/

namespace Sys2Proof

/-- `STOP_WAKE`: whether a button press clears the stopped state (R7, 92 D9). -/
inductive StopWake where
  | never
  | onButtonPress
deriving DecidableEq, Repr

/-- `SP_ADD_FLAGS`: how `ADD SP,e8` and `LD HL,SP+e8` compute H and C (R7, 92 D13). -/
inductive SpAddFlags where
  | lowByte
  | bit11_15
deriving DecidableEq, Repr

/-- `EI_DELAY`: instructions between `EI` and the master enable becoming 1 (R7, 92 D7). -/
inductive EiDelay where
  | zero
  | one
deriving DecidableEq, Repr

/-- `TIMER_RATE[0..3]`: ticks between timer increments per select value (R7, 92 D15). -/
structure TimerRates where
  rate0 : Nat
  rate1 : Nat
  rate2 : Nat
  rate3 : Nat
deriving DecidableEq, Repr

/-- `VECTOR[0..4]`: the interrupt vector of each source (R7, R364, 92 D44). -/
structure Vectors where
  vblank : Word
  lcdStatus : Word
  timer : Word
  serial : Word
  joypad : Word
deriving DecidableEq, Repr

/-- The parameters of R7 that are not the cartridge's. -/
structure Config where
  openBus : Byte
  divPeriod : Nat
  timerRate : TimerRates
  stopWake : StopWake
  spAddFlags : SpAddFlags
  eiDelay : EiDelay
  vector : Vectors
deriving DecidableEq, Repr

/-- Every parameter at the value R7 gives it. -/
def Config.spec : Config where
  openBus := 0xFF#8
  divPeriod := 255
  timerRate := { rate0 := 1024, rate1 := 16, rate2 := 64, rate3 := 256 }
  stopWake := .never
  spAddFlags := .lowByte
  eiDelay := .zero
  vector :=
    { vblank := 0x0040#16, lcdStatus := 0x0048#16, timer := 0x0050#16, serial := 0x0058#16, joypad := 0x0060#16 }

end Sys2Proof
end

