-- ==== Sys2Proof/Machine/State.lean ====
section
/-! DEFINITION. The state of the yabgbe core (10_state.md), block by block as plain data, the reasons a run can
end, power-up (60_exceptions.md R441) and the state after reset (70_reset_and_hazards.md R460). -/

namespace Sys2Proof.Machine

/-! ## Memories -/

/-- A sparse array of `w`-bit cells by index, in one canonical form (`Cells.wf`): indexes strictly rising, no
cell listed that equals `Cells.unlisted`. -/
abbrev Cells (w : Nat) := List (Nat × BitVec w)

/-- A byte array (20_memory.md R62, R71): offsets and bytes. -/
abbrev Memory := List Host.Cell

/-! ## CPU (10_state.md sections 1 and 2) -/

/-- The CPU's registers and control state (R20 to R34). The pairs of R21 are views of the 8-bit registers. -/
structure Cpu where
  /-- accumulator (R20) -/
  a : Byte
  /-- flag register (R22): Z, N, H, C in bits 7, 6, 5, 4; bits 3:0 are 0 -/
  f : Byte
  b : Byte
  c : Byte
  d : Byte
  e : Byte
  h : Byte
  l : Byte
  /-- stack pointer (R24) -/
  sp : Word
  /-- program counter (R25) -/
  pc : Word
  /-- master interrupt enable (R30) -/
  ime : Bool
  /-- set by `HALT` (R31) -/
  halted : Bool
  /-- set by `STOP` (R32) -/
  stopped : Bool
  /-- ticks still owed by the instruction in progress (R33) -/
  wait : Nat
  /-- the next opcode fetch does not advance `pc` (R34) -/
  haltBug : Bool
  /-- the model's own: an `EI` whose effect the parameter `EI_DELAY = 1` delays (log entry 4) -/
  eiPending : Bool
deriving DecidableEq, Repr

/-! ## Bus (10_state.md section 3, R36, R37, R62) -/

/-- The eight button lines with their remembered level, true = pressed (R43). -/
structure Buttons where
  right : Bool
  left : Bool
  up : Bool
  down : Bool
  a : Bool
  b : Bool
  select : Bool
  start : Bool
deriving DecidableEq, Repr

/-- What the bus owns: work and high RAM, the interrupt, joypad, timer and boot registers, the invalid flag and
the tick counter. -/
structure Bus where
  /-- work RAM, 8192 bytes (R62) -/
  wram : Memory
  /-- high RAM, 127 bytes (R62) -/
  hram : Memory
  /-- `IE` (R40) -/
  ie : Byte
  /-- `IF[4:0]` (R41) -/
  iflag : BitVec 5
  /-- `JOYP[5:4]` (R42) -/
  joypSel : BitVec 2
  /-- the button lines (R43) -/
  buttons : Buttons
  /-- `DIV` (R44) -/
  div : Byte
  /-- `TIMA` (R45) -/
  tima : Byte
  /-- `TMA` (R46) -/
  tma : Byte
  /-- `TAC[2:0]` (R47) -/
  tac : BitVec 3
  /-- the boot-ROM-disable latch (R48) -/
  boot : Byte
  /-- the bus-wide invalid flag (R36) -/
  invalid : Bool
  /-- the tick counter, unbounded (R37) -/
  tick : Nat
deriving DecidableEq, Repr

/-! ## Pixel processor (10_state.md R49 to R60, section 4) -/

/-- The scan mode, numbered 0 to 3 (R57). -/
inductive PpuMode where
  | hblank
  | vblank
  | search
  | draw
deriving DecidableEq, Repr

/-- A slot of the pixel queue (R59). -/
structure Pixel where
  color : BitVec 2
  sp : Bool
  prio : Bool
  pal : Bool
deriving DecidableEq, Repr

/-- What the pixel processor owns. -/
structure Ppu where
  /-- video RAM, 8192 bytes (R62) -/
  vram : Memory
  /-- sprite attribute table, 160 bytes (R62, R63) -/
  oam : Memory
  /-- framebuffer (R60): the cell of line `y`, column `x` has index `160 * y + x` -/
  fb : Cells 2
  /-- `LCDC` (R49) -/
  lcdc : Byte
  /-- `STAT[6:3]`, the four enables, bit 0 = enable for mode 0 (R50) -/
  statEn : BitVec 4
  /-- `STAT[2]` (R50) -/
  coincidence : Bool
  scy : Byte
  scx : Byte
  /-- `LY`, the current line (R52) -/
  ly : Byte
  lyc : Byte
  /-- `DMA`, the last value written (R54) -/
  dma : Byte
  bgp : Byte
  obp0 : Byte
  obp1 : Byte
  wy : Byte
  wx : Byte
  /-- index of the next dot in the line (R57) -/
  dot : Nat
  mode : PpuMode
  frameBudget : Nat
  /-- column of the next pixel to be written (R57) -/
  col : Nat
  winActive : Bool
  discard : Nat
  lineSprites : List Nat
  /-- fetcher phase, 0 to 8 (R58) -/
  ph : Nat
  /-- tile-column cursor (R58) -/
  fx : Nat
  tileId : Byte
  lo : Byte
  hi : Byte
  frow : Nat
  /-- the pixel queue, slot 0 first (R59) -/
  queue : List Pixel
deriving DecidableEq, Repr

/-! ## Cartridge (00_scope.md R9, 10_state.md R64) -/

/-- The latches of the bank-switched controller (R64). -/
structure BankRegs where
  ramEnable : Bool
  bank5 : BitVec 5
  bank2 : BitVec 2
  mode : Bool
deriving DecidableEq, Repr

/-- The latches at reset (R64). -/
def BankRegs.reset : BankRegs := { ramEnable := false, bank5 := 1#5, bank2 := 0#2, mode := false }

/-- The tagged variant of R9; the direct variant has no state (R64). -/
inductive Controller where
  | direct
  | banked (r : BankRegs)
deriving DecidableEq, Repr

/-- The cartridge: its variant, bank counts and its two byte arrays (R9, R62). -/
structure Cart where
  ctrl : Controller
  romBanks : Nat
  ramBanks : Nat
  /-- the image, `romBanks * 0x4000` bytes, by physical offset -/
  rom : Memory
  /-- external RAM, `ramBanks * 0x2000` bytes, by physical offset -/
  xram : Memory
deriving DecidableEq, Repr

/-! ## The machine -/

/-- The whole state: the five blocks of R1, with the parameters of R7 that no step changes. -/
structure State where
  cpu : Cpu
  bus : Bus
  ppu : Ppu
  cart : Cart
  cfg : Config
deriving DecidableEq, Repr

/-- Why a run ends. The one synchronous exception is the undefined opcode (60_exceptions.md R360); the step itself takes
it in a next state, with the invalid flag set, and never faults (47_system.md R343, R400, log entry 7). -/
inductive Fault where
  /-- Raised by the host operations `runInstruction` and `runFrame` (R444, R446), which report failure once an
  undefined opcode has set the invalid flag (R361, R343). Safe: the machine the host would go on stepping
  is still there in the result. -/
  | invalidOpcode
deriving DecidableEq, Repr

/-- Why an instruction has no meaning in the model. -/
inductive Refusal where
  /-- Raised by an arm of `exec` for an instruction that has no meaning yet; no arm raises it now. Safe. -/
  | notModelled (mnemonic : String)
deriving DecidableEq, Repr

/-- What executing an instruction, or a step, answers. -/
abbrev Result := Host.Outcome State Fault Refusal

/-! ## Power-up -/

/-- `INIT_MEM` (R7, R60, R62): the contents of every RAM and of the framebuffer at power-up, any value. -/
structure InitMem where
  wram : Memory
  hram : Memory
  vram : Memory
  oam : Memory
  xram : Memory
  fb : Cells 2
deriving DecidableEq, Repr

/-- The variant chosen at cartridge load (R9). -/
inductive Variant where
  | direct
  | banked
deriving DecidableEq, Repr

/-- The bus's part of the record `RESET`: its registers, latches and counters (R460). -/
structure BusReset where
  ie : Byte
  iflag : BitVec 5
  joypSel : BitVec 2
  buttons : Buttons
  div : Byte
  tima : Byte
  tma : Byte
  tac : BitVec 3
  boot : Byte
  invalid : Bool
  tick : Nat
deriving DecidableEq, Repr

/-- The pixel processor's part of the record `RESET`: its registers and its scan, fetcher and queue state (R460). -/
structure PpuReset where
  lcdc : Byte
  statEn : BitVec 4
  coincidence : Bool
  scy : Byte
  scx : Byte
  ly : Byte
  lyc : Byte
  dma : Byte
  bgp : Byte
  obp0 : Byte
  obp1 : Byte
  wy : Byte
  wx : Byte
  dot : Nat
  mode : PpuMode
  frameBudget : Nat
  col : Nat
  winActive : Bool
  discard : Nat
  lineSprites : List Nat
  ph : Nat
  fx : Nat
  tileId : Byte
  lo : Byte
  hi : Byte
  frow : Nat
  queue : List Pixel
deriving DecidableEq, Repr

/-- `RESET` (R7, R460; 92 D3, D4): the value at power-up of everything that is neither a memory (`InitMem`) nor the
cartridge the host gives, block by block. `bank` is for the banked variant. -/
structure ResetRecord where
  cpu : Cpu
  bus : BusReset
  ppu : PpuReset
  bank : BankRegs
deriving DecidableEq, Repr

/-- All button lines released (R43). -/
def Buttons.released : Buttons where
  right := false
  left := false
  up := false
  down := false
  a := false
  b := false
  select := false
  start := false

/-- `RESET` with every value of the table of R460. -/
def ResetRecord.spec : ResetRecord where
  cpu :=
    { a := 0x01#8, f := 0xB0#8, b := 0x00#8, c := 0x13#8, d := 0x00#8, e := 0xD8#8, h := 0x01#8, l := 0x4D#8,
      sp := 0xFFFE#16, pc := 0x0100#16, ime := false, halted := false, stopped := false, wait := 0,
      haltBug := false, eiPending := false }
  bus :=
    { ie := 0x00#8, iflag := 0#5, joypSel := 0#2, buttons := Buttons.released, div := 0x00#8, tima := 0x00#8,
      tma := 0x00#8, tac := 0#3, boot := 0x01#8, invalid := false, tick := 0 }
  ppu :=
    { lcdc := 0x91#8, statEn := 0#4, coincidence := false, scy := 0x00#8, scx := 0x00#8, ly := 0x00#8,
      lyc := 0x00#8, dma := 0xFF#8, bgp := 0xFC#8, obp0 := 0xFF#8, obp1 := 0xFF#8, wy := 0x00#8, wx := 0x00#8,
      dot := 0, mode := .hblank, frameBudget := 70224, col := 0, winActive := false, discard := 0,
      lineSprites := [], ph := 0, fx := 0, tileId := 0x00#8, lo := 0x00#8, hi := 0x00#8, frow := 0, queue := [] }
  bank := BankRegs.reset

/-- The controller of a variant with its latches at the values of `RESET` (R64). -/
def Variant.controller (bank : BankRegs) : Variant → Controller
  | .direct => .direct
  | .banked => .banked bank

/-- The bus at power-up: its part of `RESET` and its RAMs (R441, R460). -/
def Bus.reset (r : BusReset) (m : InitMem) : Bus where
  wram := m.wram
  hram := m.hram
  ie := r.ie
  iflag := r.iflag
  joypSel := r.joypSel
  buttons := r.buttons
  div := r.div
  tima := r.tima
  tma := r.tma
  tac := r.tac
  boot := r.boot
  invalid := r.invalid
  tick := r.tick

/-- The pixel processor at power-up: its part of `RESET`, its memories and the framebuffer (R441, R460). -/
def Ppu.reset (r : PpuReset) (m : InitMem) : Ppu where
  vram := m.vram
  oam := m.oam
  fb := m.fb
  lcdc := r.lcdc
  statEn := r.statEn
  coincidence := r.coincidence
  scy := r.scy
  scx := r.scx
  ly := r.ly
  lyc := r.lyc
  dma := r.dma
  bgp := r.bgp
  obp0 := r.obp0
  obp1 := r.obp1
  wy := r.wy
  wx := r.wx
  dot := r.dot
  mode := r.mode
  frameBudget := r.frameBudget
  col := r.col
  winActive := r.winActive
  discard := r.discard
  lineSprites := r.lineSprites
  ph := r.ph
  fx := r.fx
  tileId := r.tileId
  lo := r.lo
  hi := r.hi
  frow := r.frow
  queue := r.queue

/-- `PowerUp(variant, ROM_BANKS, RAM_BANKS, ROM_IMAGE)` (60_exceptions.md R441) with the parameters of R7: those a
machine carries in `cfg`, the record `RESET`, and the power-up contents `INIT_MEM` of the RAMs. Every piece of state
is at its reset value (R460). -/
def State.powerUp (cfg : Config) (r : ResetRecord) (variant : Variant) (romBanks ramBanks : Nat) (image : Memory)
    (init : InitMem) : State where
  cpu := r.cpu
  bus := Bus.reset r.bus init
  ppu := Ppu.reset r.ppu init
  cart := { ctrl := variant.controller r.bank, romBanks, ramBanks, rom := image, xram := init.xram }
  cfg := cfg

/-- Power-up contents with nothing listed (log entry 1). DESIGN CHOICE: R62 leaves them open. -/
def InitMem.blank : InitMem := { wram := [], hram := [], vram := [], oam := [], xram := [], fb := [] }

/-- The machine right after reset (R460), with the parameters, `RESET` among them, at the values of R7, nothing listed
in any memory, and a direct cartridge of two banks with a blank image. DESIGN CHOICE for the cartridge, which the host
supplies (R9, log entry 2), and for the RAMs (log entry 1). -/
def State.reset : State := State.powerUp Config.spec ResetRecord.spec .direct 2 0 [] InitMem.blank

end Sys2Proof.Machine
end

