-- ==== Sys2Proof/Machine/Memory.lean ====
section
/-! DEFINITION. Sparse arrays of cells in canonical form: what an unlisted index reads as, reading, writing, the
canonical form itself. -/

namespace Sys2Proof.Machine

/-- What an unlisted index reads as: zero. DESIGN CHOICE (log entry 1): R60 and R62 leave the power-up contents
open; `State.powerUp` takes them as an argument. -/
def Cells.unlisted {w : Nat} : BitVec w := 0#w

/-- Read the cell at an index. -/
def Cells.read {w : Nat} : Cells w → Nat → BitVec w
  | [], _ => Cells.unlisted
  | (k, v) :: m, i => if i < k then Cells.unlisted else if i = k then v else Cells.read m i

/-- List a cell before the others, unless it is what an unlisted index reads as. -/
def Cells.listed {w : Nat} (i : Nat) (v : BitVec w) (m : Cells w) : Cells w :=
  if v = Cells.unlisted then m else (i, v) :: m

/-- Write the cell at an index, keeping the canonical form. -/
def Cells.write {w : Nat} : Cells w → Nat → BitVec w → Cells w
  | [], i, v => Cells.listed i v []
  | (k, x) :: m, i, v =>
    if i < k then Cells.listed i v ((k, x) :: m)
    else if i = k then Cells.listed i v m
    else (k, x) :: Cells.write m i v

/-- The canonical form: indexes strictly rising, no listed cell equal to what an unlisted index reads as. -/
abbrev Cells.wf {w : Nat} (m : Cells w) : Prop :=
  m.Pairwise (fun x y => x.1 < y.1) ∧ ∀ x ∈ m, x.2 ≠ Cells.unlisted

/-- Every listed index is below the array's size. -/
abbrev Cells.below {w : Nat} (m : Cells w) (size : Nat) : Prop := ∀ x ∈ m, x.1 < size

/-- The canonical form of a byte array. -/
abbrev Memory.wf (m : Memory) : Prop := Cells.wf m

end Sys2Proof.Machine
end

