-- ==== Sys2Proof/Machine/Cartridge.lean ====
section
/-! DEFINITION. The cartridge: bank translation of reads, and writes, of both variants (20_memory.md R109 to
R121). Addresses are numbers of the CPU's address space in `0x0000`–`0x7FFF` or `0xA000`–`0xBFFF`. -/

namespace Sys2Proof.Machine

/-- The physical arrays behind the cartridge's windows (R110). -/
inductive CartMem where
  | rom
  | xram
deriving DecidableEq, Repr

/-- The ROM bank of the switchable window (R118). -/
def BankRegs.romBank (r : BankRegs) (romBanks : Nat) : Nat :=
  (if r.mode then r.bank5.toNat else r.bank2.toNat * 32 + r.bank5.toNat) % romBanks

/-- The RAM bank of the external RAM window (R119). -/
def BankRegs.ramBank (r : BankRegs) (ramBanks : Nat) : Nat :=
  (if r.mode then r.bank2.toNat else 0) % ramBanks

/-- The offset in external RAM that an address of `0xA000`–`0xBFFF` maps to, if any (R111, R112, R119). -/
def Cart.xramMap (c : Cart) (a : Nat) : Option Nat :=
  if c.ramBanks = 0 then none
  else
    match c.ctrl with
    | .direct => some (a - 0xA000)
    | .banked r =>
      if r.ramEnable then some (r.ramBank c.ramBanks * 0x2000 + (a - 0xA000)) else none

/-- `CartMapRead(a)` (R110, R111, R117, R118, R119): the array and offset, or none for "not mapped". -/
def Cart.mapRead (c : Cart) (a : Nat) : Option (CartMem × Nat) :=
  if 0xA000 ≤ a then (c.xramMap a).map fun off => (.xram, off)
  else
    match c.ctrl with
    | .direct => some (.rom, a)
    | .banked r =>
      if a ≤ 0x3FFF then some (.rom, a)
      else some (.rom, r.romBank c.romBanks * 0x4000 + (a - 0x4000))

/-- The bytes of a physical array. -/
def Cart.array (c : Cart) : CartMem → Memory
  | .rom => c.rom
  | .xram => c.xram

/-- A latch update by a write of `v` into `0x0000`–`0x7FFF` on the banked variant (R113 to R116). -/
def BankRegs.latch (r : BankRegs) (a : Nat) (v : Byte) : BankRegs :=
  if a ≤ 0x1FFF then { r with ramEnable := v.extractLsb' 0 4 = 0xA#4 }
  else if a ≤ 0x3FFF then
    { r with bank5 := if v.extractLsb' 0 5 = 0#5 then 1#5 else v.extractLsb' 0 5 }
  else if a ≤ 0x5FFF then { r with bank2 := v.extractLsb' 0 2 }
  else { r with mode := v.getLsbD 0 }

/-- `CartWrite(a, v)` (R110, R112 to R116, R119 to R121). ROM is never written. -/
def Cart.write (c : Cart) (a : Nat) (v : Byte) : Cart :=
  if 0xA000 ≤ a then
    match c.xramMap a with
    | some off => { c with xram := Cells.write c.xram off v }
    | none => c
  else
    match c.ctrl with
    | .direct => c
    | .banked r => { c with ctrl := .banked (r.latch a v) }

end Sys2Proof.Machine
end

