-- ==== Sys2Proof/Machine/Bus.lean ====
section
/-! DEFINITION. The system bus: `BusRead` and `BusWrite` with their visibility rules and register side effects
(20_memory.md R70 to R85), the joypad read (10_state.md R42) and the DMA copy (60_exceptions.md R438). -/

namespace Sys2Proof.Machine

/-! ## Registers computed on read -/

/-- The number of a scan mode, `STAT[1:0]` (R50, R57). -/
def PpuMode.bits : PpuMode → BitVec 2
  | .hblank => 0#2
  | .vblank => 1#2
  | .search => 2#2
  | .draw => 3#2

/-- The pressed mask of the direction row, bit 0 right (R42). -/
def Buttons.dir (k : Buttons) : BitVec 4 :=
  BitVec.ofBool k.down ++ BitVec.ofBool k.up ++ BitVec.ofBool k.left ++ BitVec.ofBool k.right

/-- The pressed mask of the action row, bit 0 A (R42). -/
def Buttons.act (k : Buttons) : BitVec 4 :=
  BitVec.ofBool k.start ++ BitVec.ofBool k.select ++ BitVec.ofBool k.b ++ BitVec.ofBool k.a

/-- `JoypRead()`: `{0b11, sel, low}`, both rows active low and combined when both are selected (R42, R420). -/
def Bus.joypRead (b : Bus) : Byte :=
  let low : BitVec 4 :=
    (if b.joypSel.getLsbD 0 then 0xF#4 else ~~~b.buttons.dir) &&&
      (if b.joypSel.getLsbD 1 then 0xF#4 else ~~~b.buttons.act)
  (3#2 ++ b.joypSel ++ low : BitVec 8)

/-- The read value of `STAT`: `{1, enables, coincidence, mode}` (R50, R76). -/
def Ppu.statRead (p : Ppu) : Byte :=
  (1#1 ++ p.statEn ++ BitVec.ofBool p.coincidence ++ p.mode.bits : BitVec 8)

/-! ## Visibility (R74, R75) -/

/-- `VramVisible()` (R74). -/
def Ppu.vramVisible (p : Ppu) : Bool := !p.lcdc.getLsbD 7 || p.mode != .draw

/-- `OamVisible()` (R75). -/
def Ppu.oamVisible (p : Ppu) : Bool := !p.lcdc.getLsbD 7 || p.mode == .hblank || p.mode == .vblank

/-! ## Pixel-processor registers (R76) -/

/-- `PpuRegRead(a)` for `a` in `0xFF40`–`0xFF4B` (R76). -/
def Ppu.regRead (p : Ppu) (a : Nat) : Byte :=
  if a = 0xFF40 then p.lcdc
  else if a = 0xFF41 then p.statRead
  else if a = 0xFF42 then p.scy
  else if a = 0xFF43 then p.scx
  else if a = 0xFF44 then p.ly
  else if a = 0xFF45 then p.lyc
  else if a = 0xFF46 then p.dma
  else if a = 0xFF47 then p.bgp
  else if a = 0xFF48 then p.obp0
  else if a = 0xFF49 then p.obp1
  else if a = 0xFF4A then p.wy
  else p.wx

/-- The storing part of `PpuRegWrite(a, v)` for `a` in `0xFF40`–`0xFF4B` (R76): `STAT` keeps the four enable
bits, `LY` ignores the write. The copy that a write to `0xFF46` starts is `dmaCopy`. -/
def Ppu.regStore (p : Ppu) (a : Nat) (v : Byte) : Ppu :=
  if a = 0xFF40 then { p with lcdc := v }
  else if a = 0xFF41 then { p with statEn := v.extractLsb' 3 4 }
  else if a = 0xFF42 then { p with scy := v }
  else if a = 0xFF43 then { p with scx := v }
  else if a = 0xFF44 then p
  else if a = 0xFF45 then { p with lyc := v }
  else if a = 0xFF46 then { p with dma := v }
  else if a = 0xFF47 then { p with bgp := v }
  else if a = 0xFF48 then { p with obp0 := v }
  else if a = 0xFF49 then { p with obp1 := v }
  else if a = 0xFF4A then { p with wy := v }
  else { p with wx := v }

/-! ## BusRead (R72) -/

/-- `BusRead(a)` (R72): the byte at an address, `OPEN_BUS` where there is no owner or the owner is hidden.
Changes nothing (R85). -/
def busRead (s : State) (a : Word) : Byte :=
  let n := a.toNat
  if 0x8000 ≤ n ∧ n ≤ 0x9FFF then
    if s.ppu.vramVisible then Cells.read s.ppu.vram (n - 0x8000) else s.cfg.openBus
  else if 0xFE00 ≤ n ∧ n ≤ 0xFE9F then
    if s.ppu.oamVisible then Cells.read s.ppu.oam (n - 0xFE00) else s.cfg.openBus
  else if 0xFF40 ≤ n ∧ n ≤ 0xFF4B then s.ppu.regRead n
  else if n ≤ 0x7FFF ∨ (0xA000 ≤ n ∧ n ≤ 0xBFFF) then
    match s.cart.mapRead n with
    | some (mem, off) => Cells.read (s.cart.array mem) off
    | none => s.cfg.openBus
  else if 0xC000 ≤ n ∧ n ≤ 0xDFFF then Cells.read s.bus.wram (n - 0xC000)
  else if 0xE000 ≤ n ∧ n ≤ 0xFDFF then Cells.read s.bus.wram (n - 0xE000)
  else if 0xFF80 ≤ n ∧ n ≤ 0xFFFE then Cells.read s.bus.hram (n - 0xFF80)
  else if n = 0xFF00 then s.bus.joypRead
  else if n = 0xFF04 then s.bus.div
  else if n = 0xFF05 then s.bus.tima
  else if n = 0xFF06 then s.bus.tma
  else if n = 0xFF07 then (0x1F#5 ++ s.bus.tac : BitVec 8)
  else if n = 0xFF0F then (7#3 ++ s.bus.iflag : BitVec 8)
  else if n = 0xFF50 then s.bus.boot
  else if n = 0xFFFF then s.bus.ie
  else s.cfg.openBus

/-! ## DMA (R438) -/

/-- One byte of the copy: `OAM[k] <- BusRead((v << 8) + k)`. The read is gated, the write is not (R77). -/
def dmaByte (v : Byte) (s : State) (k : Nat) : State :=
  { s with ppu.oam := Cells.write s.ppu.oam k (busRead s (mkWord v 0#8 + BitVec.ofNat 16 k)) }

/-- The 160-byte copy into the sprite table, in the order of R438. -/
def dmaCopy (v : Byte) (s : State) : State := (List.range 160).foldl (dmaByte v) s

/-! ## BusWrite (R73) -/

/-- `BusWrite(a, v)` (R73): stores where the owner accepts the write, changes nothing elsewhere. -/
def busWrite (s : State) (a : Word) (v : Byte) : State :=
  let n := a.toNat
  if 0x8000 ≤ n ∧ n ≤ 0x9FFF then
    if s.ppu.vramVisible then { s with ppu.vram := Cells.write s.ppu.vram (n - 0x8000) v } else s
  else if 0xFE00 ≤ n ∧ n ≤ 0xFE9F then
    if s.ppu.oamVisible then { s with ppu.oam := Cells.write s.ppu.oam (n - 0xFE00) v } else s
  else if 0xFF40 ≤ n ∧ n ≤ 0xFF4B then
    if n = 0xFF46 then dmaCopy v { s with ppu := s.ppu.regStore n v }
    else { s with ppu := s.ppu.regStore n v }
  else if n ≤ 0x7FFF ∨ (0xA000 ≤ n ∧ n ≤ 0xBFFF) then { s with cart := s.cart.write n v }
  else if 0xC000 ≤ n ∧ n ≤ 0xDFFF then { s with bus.wram := Cells.write s.bus.wram (n - 0xC000) v }
  else if 0xE000 ≤ n ∧ n ≤ 0xFDFF then { s with bus.wram := Cells.write s.bus.wram (n - 0xE000) v }
  else if 0xFF80 ≤ n ∧ n ≤ 0xFFFE then { s with bus.hram := Cells.write s.bus.hram (n - 0xFF80) v }
  else if n = 0xFF00 then { s with bus.joypSel := v.extractLsb' 4 2 }
  else if n = 0xFF04 then { s with bus.div := 0x00#8 }
  else if n = 0xFF05 then { s with bus.tima := v }
  else if n = 0xFF06 then { s with bus.tma := v }
  else if n = 0xFF07 then { s with bus.tac := v.extractLsb' 0 3 }
  else if n = 0xFF0F then { s with bus.iflag := v.extractLsb' 0 5 }
  else if n = 0xFF50 then { s with bus.boot := v }
  else if n = 0xFFFF then { s with bus.ie := v }
  else s

end Sys2Proof.Machine
end

