-- ==== Sys2Proof/Machine/Ops.lean ====
section
/-! DEFINITION. The shared operations over registers and memory: register access, instruction fetch (30_encoding.md
R144 to R147), 16-bit memory and the stack (20_memory.md R100, 40_control_flow.md R194, R195), the end of an
instruction (60_exceptions.md R401), and the exceptions: interrupt entry (R365), return from it (R190) and the
undefined opcode (R343, R361). -/

namespace Sys2Proof.Machine

/-! ## Registers (10_state.md R20, R21) -/

/-- Read an 8-bit general register (R20). -/
def State.reg (s : State) : Reg → Byte
  | .b => s.cpu.b
  | .c => s.cpu.c
  | .d => s.cpu.d
  | .e => s.cpu.e
  | .h => s.cpu.h
  | .l => s.cpu.l
  | .a => s.cpu.a

/-- Write an 8-bit general register (R20). -/
def State.setReg (s : State) (r : Reg) (v : Byte) : State :=
  match r with
  | .b => { s with cpu.b := v }
  | .c => { s with cpu.c := v }
  | .d => { s with cpu.d := v }
  | .e => { s with cpu.e := v }
  | .h => { s with cpu.h := v }
  | .l => { s with cpu.l := v }
  | .a => { s with cpu.a := v }

/-- `BC` (R21). -/
def State.bc (s : State) : Word := mkWord s.cpu.b s.cpu.c

/-- `DE` (R21). -/
def State.de (s : State) : Word := mkWord s.cpu.d s.cpu.e

/-- `HL` (R21). -/
def State.hl (s : State) : Word := mkWord s.cpu.h s.cpu.l

/-- `AF` (R21). -/
def State.af (s : State) : Word := mkWord s.cpu.a s.cpu.f

/-- `BC <- v` (R21). -/
def State.setBc (s : State) (v : Word) : State := { s with cpu.b := hiByte v, cpu.c := loByte v }

/-- `DE <- v` (R21). -/
def State.setDe (s : State) (v : Word) : State := { s with cpu.d := hiByte v, cpu.e := loByte v }

/-- `HL <- v` (R21). -/
def State.setHl (s : State) (v : Word) : State := { s with cpu.h := hiByte v, cpu.l := loByte v }

/-- `AF <- v` with the low nibble of `F` forced to zero (R21, R22, R245). -/
def State.setAf (s : State) (v : Word) : State := { s with cpu.a := hiByte v, cpu.f := loByte v &&& 0xF0#8 }

/-- `SP <- v` (R24). -/
def State.setSp (s : State) (v : Word) : State := { s with cpu.sp := v }

/-- `PC <- v` (R25). -/
def State.setPc (s : State) (v : Word) : State := { s with cpu.pc := v }

/-- `IME <- v` (R30). -/
def State.setIme (s : State) (v : Bool) : State := { s with cpu.ime := v }

/-- `wait <- n` (R33). -/
def State.setWait (s : State) (n : Nat) : State := { s with cpu.wait := n }

/-! ## The end of an instruction -/

/-- The end of an instruction of the given cost: `wait <- cost - 1` (R401, R33). -/
def finish (cost : Nat) (s : State) : Result := .next (s.setWait (cost - 1))

/-! ## Fetch (R144 to R147) -/

/-- Where the byte after the opcode byte is read: the address after `PC`, or `PC` itself while `halt_bug` makes the
opcode fetch leave `PC` alone (R145, R146). -/
def fetchNext (s : State) : Word := if s.cpu.haltBug then s.cpu.pc else s.cpu.pc + 1#16

/-- The opcode byte and the two bytes that operand fetches would read after it (R145 to R147). Reading changes
nothing (R85), so a byte the instruction has no use for may be read here (log entry 8). -/
def fetchBytes (s : State) : List Byte :=
  [busRead s s.cpu.pc, busRead s (fetchNext s), busRead s (fetchNext s + 1#16)]

/-- `PC` past an instruction of `len` bytes and `halt_bug` consumed by its opcode fetch (R145 to R147). -/
def fetched (s : State) (len : Nat) : State :=
  { s with cpu.pc := fetchNext s + BitVec.ofNat 16 (len - 1), cpu.haltBug := false }

/-- `Fetch8()` without its cost: the byte at `PC` (R146). -/
def fetch8Value (s : State) : Byte := busRead s s.cpu.pc

/-- `Fetch8()` without its cost: the state with `PC` past the byte (R146). -/
def fetch8State (s : State) : State := s.setPc (s.cpu.pc + 1#16)

/-! ## 16-bit memory and the stack -/

/-- `MemWrite(a, 2, v)`: low byte first (R12, R100). -/
def memWrite16 (s : State) (a v : Word) : State :=
  busWrite (busWrite s a (loByte v)) (a + 1#16) (hiByte v)

/-- `MemRead(a, 2)` (R12, R100). -/
def memRead16 (s : State) (a : Word) : Word := mkWord (busRead s (a + 1#16)) (busRead s a)

/-- One byte pushed: `SP <- SP - 1; MemWrite(SP, 1, v)`. -/
def pushByte (s : State) (v : Byte) : State :=
  busWrite (s.setSp (s.cpu.sp - 1#16)) (s.cpu.sp - 1#16) v

/-- `Push16(v)` without its cost: high byte, then low byte (R194). -/
def push16 (s : State) (v : Word) : State := pushByte (pushByte s (hiByte v)) (loByte v)

/-- The value `Pop16()` reads (R195). -/
def popValue (s : State) : Word := memRead16 s s.cpu.sp

/-- The state `Pop16()` leaves (R195). -/
def popState (s : State) : State := s.setSp (s.cpu.sp + 2#16)

/-! ## Exceptions -/

/-- The five interrupt sources, in bit and priority order (R40, R362, R366). -/
inductive IrqSource where
  | vblank
  | lcdStatus
  | timer
  | serial
  | joypad
deriving DecidableEq, Repr

/-- The bit of a source in `IE` and `IF` (R362). -/
def IrqSource.bit : IrqSource → Nat
  | .vblank => 0
  | .lcdStatus => 1
  | .timer => 2
  | .serial => 3
  | .joypad => 4

/-- `VECTOR[i]` (R364). -/
def vectorOf (v : Vectors) : IrqSource → Word
  | .vblank => v.vblank
  | .lcdStatus => v.lcdStatus
  | .timer => v.timer
  | .serial => v.serial
  | .joypad => v.joypad

/-- `pend = IE & IF & 0x1F` (R363). -/
def pend (s : State) : BitVec 5 := s.bus.ie.extractLsb' 0 5 &&& s.bus.iflag

/-- The lowest-numbered set bit (R365, R366). -/
def IrqSource.lowest (p : BitVec 5) : Option IrqSource :=
  if p.getLsbD 0 then some .vblank
  else if p.getLsbD 1 then some .lcdStatus
  else if p.getLsbD 2 then some .timer
  else if p.getLsbD 3 then some .serial
  else if p.getLsbD 4 then some .joypad
  else none

/-- `IF[i] <- 1` (R362). -/
def Bus.raise (b : Bus) (i : IrqSource) : Bus := { b with iflag := b.iflag ||| (1#5 <<< i.bit) }

/-- `IF[i] <- 0` (R365). -/
def Bus.clear (b : Bus) (i : IrqSource) : Bus := { b with iflag := b.iflag &&& ~~~(1#5 <<< i.bit) }

/-- Interrupt entry for one source (R365): clear its pending bit and the master enable, push `PC`, jump to its
vector, 20 ticks. An `EI` still delayed is cancelled with the master enable (log entry 4). -/
def enterInterrupt (i : IrqSource) (s : State) : State :=
  let s1 := { s with bus := s.bus.clear i, cpu.ime := false, cpu.eiPending := false }
  ((push16 s1 s1.cpu.pc).setPc (vectorOf s.cfg.vector i)).setWait 19

/-- `InterruptEntry()` (R365, R366): the lowest-numbered deliverable source. -/
def interruptEntry (s : State) : State :=
  match IrqSource.lowest (pend s) with
  | some i => enterInterrupt i s
  | none => s

/-- The return from an interrupt handler (R190, R369): pop `PC`, set the master enable; nothing else is restored. -/
def returnFromInterrupt (s : State) : State := ((popState s).setPc (popValue s)).setIme true

/-- `raise InvalidOpcode` (R343, R361): latch the invalid flag; no register, flag or memory change, and `wait` is
left unchanged. -/
def raiseInvalidOpcode (s : State) : Result := .next { s with bus.invalid := true }

end Sys2Proof.Machine
end

