-- ==== Sys2Proof/Machine/Operands.lean ====
section
/-! DEFINITION. The operand forms of 30_encoding.md R148: slots, pairs, stack pairs, conditions, high-page and
`SP+e8` addresses. -/

namespace Sys2Proof.Machine

/-- Read an operand slot; slot 6 is the byte at `HL` (R11, R143). -/
def readSlot (s : State) : Slot → Byte
  | .reg r => s.reg r
  | .hlInd => busRead s s.hl

/-- Write an operand slot; slot 6 is the byte at `HL` (R11, R143). -/
def writeSlot (s : State) (x : Slot) (v : Byte) : State :=
  match x with
  | .reg r => s.setReg r v
  | .hlInd => busWrite s s.hl v

/-- The ticks one access of a slot adds: 4 for the byte at `HL` (R11). -/
def slotCost : Slot → Nat
  | .reg _ => 0
  | .hlInd => 4

/-- Read `RP[p]` (R143). -/
def readPair (s : State) : Pair → Word
  | .bc => s.bc
  | .de => s.de
  | .hl => s.hl
  | .sp => s.cpu.sp

/-- Write `RP[p]` (R143, R21). -/
def writePair (s : State) (p : Pair) (v : Word) : State :=
  match p with
  | .bc => s.setBc v
  | .de => s.setDe v
  | .hl => s.setHl v
  | .sp => s.setSp v

/-- Read `RP2[p]` (R143). -/
def readStackPair (s : State) : StackPair → Word
  | .bc => s.bc
  | .de => s.de
  | .hl => s.hl
  | .af => s.af

/-- Write `RP2[p]`; `AF` keeps only the high nibble of the flag byte (R245). -/
def writeStackPair (s : State) (p : StackPair) (v : Word) : State :=
  match p with
  | .bc => s.setBc v
  | .de => s.setDe v
  | .hl => s.setHl v
  | .af => s.setAf v

/-- A condition code on the flags as they are (R180, R22). -/
def evalCond (s : State) : Cond → Bool
  | .nz => !s.cpu.f.getLsbD 7
  | .z => s.cpu.f.getLsbD 7
  | .nc => !s.cpu.f.getLsbD 4
  | .c => s.cpu.f.getLsbD 4

/-- `0xFF00 + n` (R148). -/
def highPage (n : Byte) : Word := mkWord 0xFF#8 n

end Sys2Proof.Machine
end

