-- ==== Sys2Proof/Machine/Flags.lean ====
section
/-! DEFINITION. The flag byte (10_state.md R22) and every result and flag computation: 8-bit increment and decrement
(43 R260, R262), 16-bit adds (R266, R267, 42 R243), the ALU (44 R281 to R288), rotates, shifts and swap (45 R300
to R303, 46 R316 to R323), decimal adjust (45 R304), single bits (46 R324 to R326). Sums are exact numbers and
are narrowed at the end. -/

namespace Sys2Proof.Machine

/-- The four flags (R22). -/
structure Flags where
  z : Bool
  n : Bool
  h : Bool
  c : Bool
deriving DecidableEq, Repr

/-- The flag byte: Z, N, H, C in bits 7, 6, 5, 4 and zero below (R22). -/
def Flags.pack (f : Flags) : Byte :=
  (BitVec.ofBool f.z ++ BitVec.ofBool f.n ++ BitVec.ofBool f.h ++ BitVec.ofBool f.c ++ 0#4 : BitVec 8)

/-- The flags in a flag byte (R22). -/
def Flags.unpack (v : Byte) : Flags :=
  { z := v.getLsbD 7, n := v.getLsbD 6, h := v.getLsbD 5, c := v.getLsbD 4 }

/-- The flags of the CPU (R22). -/
def State.flags (s : State) : Flags := Flags.unpack s.cpu.f

/-- Write the four flags; the low nibble of `F` is zero (R22). -/
def State.setFlags (s : State) (f : Flags) : State := { s with cpu.f := f.pack }

/-- An 8-bit result with the flags it sets. -/
structure Alu8 where
  value : Byte
  flags : Flags
deriving DecidableEq, Repr

/-- The carry flag as a number. -/
def carryIn (c : Bool) : Nat := if c then 1 else 0

/-! ## 8-bit increment and decrement -/

/-- The increment path (R260): C is kept. -/
def inc8 (v : Byte) (c : Bool) : Alu8 :=
  let r := v + 1#8
  { value := r, flags := { z := r = 0#8, n := false, h := v.extractLsb' 0 4 = 0xF#4, c := c } }

/-- The decrement path (R262): C is kept. -/
def dec8 (v : Byte) (c : Bool) : Alu8 :=
  let r := v - 1#8
  { value := r, flags := { z := r = 0#8, n := true, h := v.extractLsb' 0 4 = 0#4, c := c } }

/-! ## ALU -/

/-- Add with a carry-in of 0 or 1 (R281, R282). -/
def add8 (a v : Byte) (c : Nat) : Alu8 :=
  let sum := a.toNat + v.toNat + c
  let r := BitVec.ofNat 8 sum
  { value := r
    flags := { z := r = 0#8, n := false, h := 0xF < a.toNat % 16 + v.toNat % 16 + c, c := 0xFF < sum } }

/-- Subtract with a borrow-in of 0 or 1 (R283, R284). -/
def sub8 (a v : Byte) (c : Nat) : Alu8 :=
  let r := a - v - BitVec.ofNat 8 c
  { value := r
    flags := { z := r = 0#8, n := true, h := a.toNat % 16 < v.toNat % 16 + c, c := a.toNat < v.toNat + c } }

/-- A logical result: Z from it, N and C clear, H as given (R285 to R287). -/
def logic8 (r : Byte) (h : Bool) : Alu8 :=
  { value := r, flags := { z := r = 0#8, n := false, h := h, c := false } }

/-- The ALU (R280 to R288): the new `A` and the flags, from `A`, the operand and the old carry. `CP` is `SUB` with
`A` kept. -/
def alu8 (op : AluOp) (a v : Byte) (c : Bool) : Alu8 :=
  match op with
  | .add => add8 a v 0
  | .adc => add8 a v (carryIn c)
  | .sub => sub8 a v 0
  | .sbc => sub8 a v (carryIn c)
  | .and => logic8 (a &&& v) true
  | .xor => logic8 (a ^^^ v) false
  | .or => logic8 (a ||| v) false
  | .cp => { sub8 a v 0 with value := a }

/-! ## Rotates, shifts, swap -/

/-- The result and the bit shifted out of a rotate or shift; `SWAP` shifts out none (R316 to R323, R300 to R303).
`c` is the old carry. -/
def rotate8 (op : RotOp) (v : Byte) (c : Bool) : Byte × Bool :=
  match op with
  | .rlc => (v.extractLsb' 0 7 ++ v.extractLsb' 7 1, v.getLsbD 7)
  | .rrc => (v.extractLsb' 0 1 ++ v.extractLsb' 1 7, v.getLsbD 0)
  | .rl => (v.extractLsb' 0 7 ++ BitVec.ofBool c, v.getLsbD 7)
  | .rr => (BitVec.ofBool c ++ v.extractLsb' 1 7, v.getLsbD 0)
  | .sla => (v.extractLsb' 0 7 ++ 0#1, v.getLsbD 7)
  | .sra => (v.extractLsb' 7 1 ++ v.extractLsb' 1 7, v.getLsbD 0)
  | .swap => (v.extractLsb' 0 4 ++ v.extractLsb' 4 4, false)
  | .srl => (0#1 ++ v.extractLsb' 1 7, v.getLsbD 0)

/-- A rotate, shift or swap of the extended table with its flags `Z 0 0 C` (R316 to R323). -/
def rot8 (op : RotOp) (v : Byte) (c : Bool) : Alu8 :=
  let r := rotate8 op v c
  { value := r.1, flags := { z := r.1 = 0#8, n := false, h := false, c := r.2 } }

/-- An accumulator rotate with its flags `0 0 0 C` (R300 to R303). -/
def rotA8 (op : RotOp) (a : Byte) (c : Bool) : Alu8 :=
  let r := rotate8 op a c
  { value := r.1, flags := { z := false, n := false, h := false, c := r.2 } }

/-! ## Decimal adjust -/

/-- The adjustment `adj` of `DAA` (R304), from `A` before it and the flags. -/
def daaAdjust (a : Byte) (f : Flags) : Byte :=
  (if f.h ∨ (f.n = false ∧ 9 < a.toNat % 16) then 0x06#8 else 0#8) |||
    (if f.c ∨ (f.n = false ∧ 0x99 < a.toNat) then 0x60#8 else 0#8)

/-- `DAA` (R304): flags `Z - 0 C`. -/
def daa8 (a : Byte) (f : Flags) : Alu8 :=
  let r := if f.n then a - daaAdjust a f else a + daaAdjust a f
  { value := r
    flags := { z := r = 0#8, n := f.n, h := false, c := f.c || (!f.n && decide (0x99 < a.toNat)) } }

/-! ## Single bits -/

/-- The flags of `BIT b` (R324): `Z 0 1 -`. -/
def bitFlags (b : Nat) (v : Byte) (c : Bool) : Flags :=
  { z := !v.getLsbD b, n := false, h := true, c := c }

/-- `v & ~(1 << b)` (R325). -/
def resBit (b : Nat) (v : Byte) : Byte := v &&& ~~~(1#8 <<< b)

/-- `v | (1 << b)` (R326). -/
def setBit (b : Nat) (v : Byte) : Byte := v ||| (1#8 <<< b)

/-! ## 16-bit adds -/

/-- The flags of `ADD HL,rp` (R266): `- 0 H C`, H out of bit 11, C out of bit 15; Z is kept. -/
def addHlFlags (a b : Word) (z : Bool) : Flags :=
  { z := z, n := false, h := 0x0FFF < a.toNat % 0x1000 + b.toNat % 0x1000, c := 0xFFFF < a.toNat + b.toNat }

/-- `trunc_16(SP + sext_16(e))` (R148, R243, R267). -/
def spPlus (sp : Word) (e : Byte) : Word := sp + sext16 e

/-- The flags of `ADD SP,e8` and `LD HL,SP+e8` (R243, R267): `0 0 H C`. With `low_byte` H and C come from the low
byte of `SP` and the operand taken as unsigned; with `bit11_15` from the 16-bit sum (92 D13, log entry 6). -/
def spAddFlags (mode : SpAddFlags) (sp : Word) (e : Byte) : Flags :=
  match mode with
  | .lowByte =>
    { z := false, n := false, h := 0xF < sp.toNat % 16 + e.toNat % 16, c := 0xFF < sp.toNat % 256 + e.toNat }
  | .bit11_15 => addHlFlags sp (sext16 e) false

end Sys2Proof.Machine
end

