-- ==== Sys2Proof/Machine/Accumulator.lean ====
section
/-! DEFINITION. The accumulator rotate, adjust and flag instructions (45_accumulator.md R300 to R307), 4 ticks each: shared shapes first, then
one meaning per row of the opcode table. Each is applied to the state after the instruction's own bytes have
been fetched (30_encoding.md R144). -/

namespace Sys2Proof.Machine

/-- `RLCA`, `RRCA`, `RLA`, `RRA` (R300 to R303). -/
def opRotA (op : RotOp) (s : State) : Result :=
  let r := rotA8 op s.cpu.a s.flags.c
  finish 4 ((s.setFlags r.flags).setReg .a r.value)

/-- `DAA` (R304). -/
def opDaa (s : State) : Result :=
  let r := daa8 s.cpu.a s.flags
  finish 4 ((s.setFlags r.flags).setReg .a r.value)

/-- `CPL` (R305): flags `- 1 1 -`. -/
def opCpl (s : State) : Result :=
  finish 4 ((s.setFlags { s.flags with n := true, h := true }).setReg .a (s.cpu.a ^^^ 0xFF#8))

/-- `SCF` (R306): flags `- 0 0 1`. -/
def opScf (s : State) : Result := finish 4 (s.setFlags { s.flags with n := false, h := false, c := true })

/-- `CCF` (R307): flags `- 0 0 ~C`. -/
def opCcf (s : State) : Result := finish 4 (s.setFlags { s.flags with n := false, h := false, c := !s.flags.c })

/-- `RLCA` (R300). -/
def execRlca (s : State) : Result := opRotA .rlc s

/-- `RRCA` (R301). -/
def execRrca (s : State) : Result := opRotA .rrc s

/-- `RLA` (R302). -/
def execRla (s : State) : Result := opRotA .rl s

/-- `RRA` (R303). -/
def execRra (s : State) : Result := opRotA .rr s

/-- `DAA` (R304). -/
def execDaa (s : State) : Result := opDaa s

/-- `CPL` (R305). -/
def execCpl (s : State) : Result := opCpl s

/-- `SCF` (R306). -/
def execScf (s : State) : Result := opScf s

/-- `CCF` (R307). -/
def execCcf (s : State) : Result := opCcf s

end Sys2Proof.Machine
end

