-- ==== Sys2Proof/Machine/Alu.lean ====
section
/-! DEFINITION. The 8-bit ALU instructions (44_alu.md R280 to R288): shared shapes first, then
one meaning per row of the opcode table. Each is applied to the state after the instruction's own bytes have
been fetched (30_encoding.md R144). -/

namespace Sys2Proof.Machine

/-- An ALU operation on `A` and a value once the value is known (R280). -/
def aluWith (op : AluOp) (v : Byte) (s : State) : State :=
  let r := alu8 op s.cpu.a v s.flags.c
  (s.setFlags r.flags).setReg .a r.value

/-- `OP A,r`, `OP A,(HL)` (R280): 4 ticks, 8 for the byte at `HL`. -/
def opAlu (op : AluOp) (x : Slot) (s : State) : Result := finish (4 + slotCost x) (aluWith op (readSlot s x) s)

/-- `OP A,n8` (R280): 8 ticks. -/
def opAluImm (op : AluOp) (n : Byte) (s : State) : Result := finish 8 (aluWith op n s)

/-- `ADD A,B` (R281). -/
def execAddAB (s : State) : Result := opAlu .add (.reg .b) s

/-- `ADD A,C` (R281). -/
def execAddAC (s : State) : Result := opAlu .add (.reg .c) s

/-- `ADD A,D` (R281). -/
def execAddAD (s : State) : Result := opAlu .add (.reg .d) s

/-- `ADD A,E` (R281). -/
def execAddAE (s : State) : Result := opAlu .add (.reg .e) s

/-- `ADD A,H` (R281). -/
def execAddAH (s : State) : Result := opAlu .add (.reg .h) s

/-- `ADD A,L` (R281). -/
def execAddAL (s : State) : Result := opAlu .add (.reg .l) s

/-- `ADD A,(HL)` (R281). -/
def execAddAIndHl (s : State) : Result := opAlu .add .hlInd s

/-- `ADD A,A` (R281). -/
def execAddAA (s : State) : Result := opAlu .add (.reg .a) s

/-- `ADC A,B` (R282). -/
def execAdcAB (s : State) : Result := opAlu .adc (.reg .b) s

/-- `ADC A,C` (R282). -/
def execAdcAC (s : State) : Result := opAlu .adc (.reg .c) s

/-- `ADC A,D` (R282). -/
def execAdcAD (s : State) : Result := opAlu .adc (.reg .d) s

/-- `ADC A,E` (R282). -/
def execAdcAE (s : State) : Result := opAlu .adc (.reg .e) s

/-- `ADC A,H` (R282). -/
def execAdcAH (s : State) : Result := opAlu .adc (.reg .h) s

/-- `ADC A,L` (R282). -/
def execAdcAL (s : State) : Result := opAlu .adc (.reg .l) s

/-- `ADC A,(HL)` (R282). -/
def execAdcAIndHl (s : State) : Result := opAlu .adc .hlInd s

/-- `ADC A,A` (R282). -/
def execAdcAA (s : State) : Result := opAlu .adc (.reg .a) s

/-- `SUB A,B` (R283). -/
def execSubAB (s : State) : Result := opAlu .sub (.reg .b) s

/-- `SUB A,C` (R283). -/
def execSubAC (s : State) : Result := opAlu .sub (.reg .c) s

/-- `SUB A,D` (R283). -/
def execSubAD (s : State) : Result := opAlu .sub (.reg .d) s

/-- `SUB A,E` (R283). -/
def execSubAE (s : State) : Result := opAlu .sub (.reg .e) s

/-- `SUB A,H` (R283). -/
def execSubAH (s : State) : Result := opAlu .sub (.reg .h) s

/-- `SUB A,L` (R283). -/
def execSubAL (s : State) : Result := opAlu .sub (.reg .l) s

/-- `SUB A,(HL)` (R283). -/
def execSubAIndHl (s : State) : Result := opAlu .sub .hlInd s

/-- `SUB A,A` (R283). -/
def execSubAA (s : State) : Result := opAlu .sub (.reg .a) s

/-- `SBC A,B` (R284). -/
def execSbcAB (s : State) : Result := opAlu .sbc (.reg .b) s

/-- `SBC A,C` (R284). -/
def execSbcAC (s : State) : Result := opAlu .sbc (.reg .c) s

/-- `SBC A,D` (R284). -/
def execSbcAD (s : State) : Result := opAlu .sbc (.reg .d) s

/-- `SBC A,E` (R284). -/
def execSbcAE (s : State) : Result := opAlu .sbc (.reg .e) s

/-- `SBC A,H` (R284). -/
def execSbcAH (s : State) : Result := opAlu .sbc (.reg .h) s

/-- `SBC A,L` (R284). -/
def execSbcAL (s : State) : Result := opAlu .sbc (.reg .l) s

/-- `SBC A,(HL)` (R284). -/
def execSbcAIndHl (s : State) : Result := opAlu .sbc .hlInd s

/-- `SBC A,A` (R284). -/
def execSbcAA (s : State) : Result := opAlu .sbc (.reg .a) s

/-- `AND A,B` (R285). -/
def execAndAB (s : State) : Result := opAlu .and (.reg .b) s

/-- `AND A,C` (R285). -/
def execAndAC (s : State) : Result := opAlu .and (.reg .c) s

/-- `AND A,D` (R285). -/
def execAndAD (s : State) : Result := opAlu .and (.reg .d) s

/-- `AND A,E` (R285). -/
def execAndAE (s : State) : Result := opAlu .and (.reg .e) s

/-- `AND A,H` (R285). -/
def execAndAH (s : State) : Result := opAlu .and (.reg .h) s

/-- `AND A,L` (R285). -/
def execAndAL (s : State) : Result := opAlu .and (.reg .l) s

/-- `AND A,(HL)` (R285). -/
def execAndAIndHl (s : State) : Result := opAlu .and .hlInd s

/-- `AND A,A` (R285). -/
def execAndAA (s : State) : Result := opAlu .and (.reg .a) s

/-- `XOR A,B` (R286). -/
def execXorAB (s : State) : Result := opAlu .xor (.reg .b) s

/-- `XOR A,C` (R286). -/
def execXorAC (s : State) : Result := opAlu .xor (.reg .c) s

/-- `XOR A,D` (R286). -/
def execXorAD (s : State) : Result := opAlu .xor (.reg .d) s

/-- `XOR A,E` (R286). -/
def execXorAE (s : State) : Result := opAlu .xor (.reg .e) s

/-- `XOR A,H` (R286). -/
def execXorAH (s : State) : Result := opAlu .xor (.reg .h) s

/-- `XOR A,L` (R286). -/
def execXorAL (s : State) : Result := opAlu .xor (.reg .l) s

/-- `XOR A,(HL)` (R286). -/
def execXorAIndHl (s : State) : Result := opAlu .xor .hlInd s

/-- `XOR A,A` (R286). -/
def execXorAA (s : State) : Result := opAlu .xor (.reg .a) s

/-- `OR A,B` (R287). -/
def execOrAB (s : State) : Result := opAlu .or (.reg .b) s

/-- `OR A,C` (R287). -/
def execOrAC (s : State) : Result := opAlu .or (.reg .c) s

/-- `OR A,D` (R287). -/
def execOrAD (s : State) : Result := opAlu .or (.reg .d) s

/-- `OR A,E` (R287). -/
def execOrAE (s : State) : Result := opAlu .or (.reg .e) s

/-- `OR A,H` (R287). -/
def execOrAH (s : State) : Result := opAlu .or (.reg .h) s

/-- `OR A,L` (R287). -/
def execOrAL (s : State) : Result := opAlu .or (.reg .l) s

/-- `OR A,(HL)` (R287). -/
def execOrAIndHl (s : State) : Result := opAlu .or .hlInd s

/-- `OR A,A` (R287). -/
def execOrAA (s : State) : Result := opAlu .or (.reg .a) s

/-- `CP A,B` (R288). -/
def execCpAB (s : State) : Result := opAlu .cp (.reg .b) s

/-- `CP A,C` (R288). -/
def execCpAC (s : State) : Result := opAlu .cp (.reg .c) s

/-- `CP A,D` (R288). -/
def execCpAD (s : State) : Result := opAlu .cp (.reg .d) s

/-- `CP A,E` (R288). -/
def execCpAE (s : State) : Result := opAlu .cp (.reg .e) s

/-- `CP A,H` (R288). -/
def execCpAH (s : State) : Result := opAlu .cp (.reg .h) s

/-- `CP A,L` (R288). -/
def execCpAL (s : State) : Result := opAlu .cp (.reg .l) s

/-- `CP A,(HL)` (R288). -/
def execCpAIndHl (s : State) : Result := opAlu .cp .hlInd s

/-- `CP A,A` (R288). -/
def execCpAA (s : State) : Result := opAlu .cp (.reg .a) s

/-- `ADD A,n8` (R281). -/
def execAddAN8 (n : Byte) (s : State) : Result := opAluImm .add n s

/-- `ADC A,n8` (R282). -/
def execAdcAN8 (n : Byte) (s : State) : Result := opAluImm .adc n s

/-- `SUB A,n8` (R283). -/
def execSubAN8 (n : Byte) (s : State) : Result := opAluImm .sub n s

/-- `SBC A,n8` (R284). -/
def execSbcAN8 (n : Byte) (s : State) : Result := opAluImm .sbc n s

/-- `AND A,n8` (R285). -/
def execAndAN8 (n : Byte) (s : State) : Result := opAluImm .and n s

/-- `XOR A,n8` (R286). -/
def execXorAN8 (n : Byte) (s : State) : Result := opAluImm .xor n s

/-- `OR A,n8` (R287). -/
def execOrAN8 (n : Byte) (s : State) : Result := opAluImm .or n s

/-- `CP A,n8` (R288). -/
def execCpAN8 (n : Byte) (s : State) : Result := opAluImm .cp n s

end Sys2Proof.Machine
end

