-- ==== Sys2Proof/Machine/Control.lean ====
section
/-! DEFINITION. The control-flow instructions (40_control_flow.md R180 to R193): shared shapes first, then
one meaning per row of the opcode table. Each is applied to the state after the instruction's own bytes have
been fetched (30_encoding.md R144). -/

namespace Sys2Proof.Machine

/-- `JR e8` (R181): relative to the byte after the operand, 12 ticks. -/
def opJr (e : Byte) (s : State) : Result := finish 12 (s.setPc (s.cpu.pc + sext16 e))

/-- `JR cc,e8` (R182): 12 ticks taken, 8 not. -/
def opJrCond (cc : Cond) (e : Byte) (s : State) : Result :=
  if evalCond s cc then finish 12 (s.setPc (s.cpu.pc + sext16 e)) else finish 8 s

/-- `JP n16` (R183): 16 ticks. -/
def opJp (nn : Word) (s : State) : Result := finish 16 (s.setPc nn)

/-- `JP cc,n16` (R184): 16 ticks taken, 12 not. -/
def opJpCond (cc : Cond) (nn : Word) (s : State) : Result :=
  if evalCond s cc then finish 16 (s.setPc nn) else finish 12 s

/-- `JP HL` (R185): 4 ticks, nothing is read at `HL`. -/
def opJpHl (s : State) : Result := finish 4 (s.setPc s.hl)

/-- Push the address of the next instruction and jump (R186, R187, R191). -/
def callTo (nn : Word) (s : State) : State := (push16 s s.cpu.pc).setPc nn

/-- Pop the program counter (R188, R189). -/
def returnTo (s : State) : State := (popState s).setPc (popValue s)

/-- `CALL n16` (R186): 24 ticks. -/
def opCall (nn : Word) (s : State) : Result := finish 24 (callTo nn s)

/-- `CALL cc,n16` (R187): 24 ticks taken, 12 not. -/
def opCallCond (cc : Cond) (nn : Word) (s : State) : Result :=
  if evalCond s cc then finish 24 (callTo nn s) else finish 12 s

/-- `RET` (R188): 16 ticks. -/
def opRet (s : State) : Result := finish 16 (returnTo s)

/-- `RET cc` (R189): 20 ticks taken, 8 not. -/
def opRetCond (cc : Cond) (s : State) : Result :=
  if evalCond s cc then finish 20 (returnTo s) else finish 8 s

/-- `RETI` (R190): 16 ticks. -/
def opReti (s : State) : Result := finish 16 (returnFromInterrupt s)

/-- `RST t` (R191): 16 ticks. -/
def opRst (t : Word) (s : State) : Result := finish 16 (callTo t s)

/-- `DI` (R192): 4 ticks. -/
def opDi (s : State) : Result := finish 4 (s.setIme false)

/-- `EI` (R193): with `EI_DELAY = 0` the master enable is 1 at once; with 1 it follows one instruction later
(92 D7, log entry 4). 4 ticks. -/
def opEi (s : State) : Result :=
  match s.cfg.eiDelay with
  | .zero => finish 4 (s.setIme true)
  | .one => finish 4 { s with cpu.eiPending := true }

/-- `JR e8` (R181). -/
def execJrE8 (e : Byte) (s : State) : Result := opJr e s

/-- `JR NZ,e8` (R182). -/
def execJrNzE8 (e : Byte) (s : State) : Result := opJrCond .nz e s

/-- `JR Z,e8` (R182). -/
def execJrZE8 (e : Byte) (s : State) : Result := opJrCond .z e s

/-- `JR NC,e8` (R182). -/
def execJrNcE8 (e : Byte) (s : State) : Result := opJrCond .nc e s

/-- `JR C,e8` (R182). -/
def execJrCE8 (e : Byte) (s : State) : Result := opJrCond .c e s

/-- `RET NZ` (R189). -/
def execRetNz (s : State) : Result := opRetCond .nz s

/-- `JP NZ,n16` (R184). -/
def execJpNzN16 (nn : Word) (s : State) : Result := opJpCond .nz nn s

/-- `JP n16` (R183). -/
def execJpN16 (nn : Word) (s : State) : Result := opJp nn s

/-- `CALL NZ,n16` (R187). -/
def execCallNzN16 (nn : Word) (s : State) : Result := opCallCond .nz nn s

/-- `RST $00` (R191). -/
def execRst00 (s : State) : Result := opRst 0x0000#16 s

/-- `RET Z` (R189). -/
def execRetZ (s : State) : Result := opRetCond .z s

/-- `RET` (R188). -/
def execRet (s : State) : Result := opRet s

/-- `JP Z,n16` (R184). -/
def execJpZN16 (nn : Word) (s : State) : Result := opJpCond .z nn s

/-- `CALL Z,n16` (R187). -/
def execCallZN16 (nn : Word) (s : State) : Result := opCallCond .z nn s

/-- `CALL n16` (R186). -/
def execCallN16 (nn : Word) (s : State) : Result := opCall nn s

/-- `RST $08` (R191). -/
def execRst08 (s : State) : Result := opRst 0x0008#16 s

/-- `RET NC` (R189). -/
def execRetNc (s : State) : Result := opRetCond .nc s

/-- `JP NC,n16` (R184). -/
def execJpNcN16 (nn : Word) (s : State) : Result := opJpCond .nc nn s

/-- `CALL NC,n16` (R187). -/
def execCallNcN16 (nn : Word) (s : State) : Result := opCallCond .nc nn s

/-- `RST $10` (R191). -/
def execRst10 (s : State) : Result := opRst 0x0010#16 s

/-- `RET C` (R189). -/
def execRetC (s : State) : Result := opRetCond .c s

/-- `RETI` (R190). -/
def execReti (s : State) : Result := opReti s

/-- `JP C,n16` (R184). -/
def execJpCN16 (nn : Word) (s : State) : Result := opJpCond .c nn s

/-- `CALL C,n16` (R187). -/
def execCallCN16 (nn : Word) (s : State) : Result := opCallCond .c nn s

/-- `RST $18` (R191). -/
def execRst18 (s : State) : Result := opRst 0x0018#16 s

/-- `RST $20` (R191). -/
def execRst20 (s : State) : Result := opRst 0x0020#16 s

/-- `JP HL` (R185). -/
def execJpHl (s : State) : Result := opJpHl s

/-- `RST $28` (R191). -/
def execRst28 (s : State) : Result := opRst 0x0028#16 s

/-- `DI` (R192). -/
def execDi (s : State) : Result := opDi s

/-- `RST $30` (R191). -/
def execRst30 (s : State) : Result := opRst 0x0030#16 s

/-- `EI` (R193). -/
def execEi (s : State) : Result := opEi s

/-- `RST $38` (R191). -/
def execRst38 (s : State) : Result := opRst 0x0038#16 s

end Sys2Proof.Machine
end

