-- ==== Sys2Proof/Machine/Extended.lean ====
section
/-! DEFINITION. The extended (0xCB-prefixed) instructions (46_cb_extended.md R315 to R326): shared shapes first, then
one meaning per row of the opcode table. Each is applied to the state after the instruction's own bytes have
been fetched (30_encoding.md R144). -/

namespace Sys2Proof.Machine

/-- Rotate, shift or swap a slot (R315 to R323): 8 ticks, 16 for the byte at `HL`. -/
def opRot (op : RotOp) (x : Slot) (s : State) : Result :=
  let r := rot8 op (readSlot s x) s.flags.c
  finish (8 + 2 * slotCost x) (writeSlot (s.setFlags r.flags) x r.value)

/-- `BIT b` of a slot (R324): 8 ticks, 12 for the byte at `HL`; nothing is written back. -/
def opBit (b : Nat) (x : Slot) (s : State) : Result :=
  finish (8 + slotCost x) (s.setFlags (bitFlags b (readSlot s x) s.flags.c))

/-- `RES b` of a slot (R325): 8 ticks, 16 for the byte at `HL`. -/
def opRes (b : Nat) (x : Slot) (s : State) : Result :=
  finish (8 + 2 * slotCost x) (writeSlot s x (resBit b (readSlot s x)))

/-- `SET b` of a slot (R326): 8 ticks, 16 for the byte at `HL`. -/
def opSet (b : Nat) (x : Slot) (s : State) : Result :=
  finish (8 + 2 * slotCost x) (writeSlot s x (setBit b (readSlot s x)))

/-- The extended instruction that a second byte selects by its fields (R315, R153). -/
def opExtended (op2 : Byte) (s : State) : Result :=
  match fieldX op2 with
  | 0 => opRot (RotOp.ofField (fieldY op2)) (Slot.ofField (fieldZ op2)) s
  | 1 => opBit (fieldY op2) (Slot.ofField (fieldZ op2)) s
  | 2 => opRes (fieldY op2) (Slot.ofField (fieldZ op2)) s
  | _ => opSet (fieldY op2) (Slot.ofField (fieldZ op2)) s

/-- `PREFIX_CB` (R315): fetch the second byte at `PC` and run what it selects (log entry 9). -/
def opPrefix (s : State) : Result := opExtended (fetch8Value s) (fetch8State s)

/-- `PREFIX_CB` (R315). -/
def execPrefixCb (s : State) : Result := opPrefix s

/-- `RLC B` (R316). -/
def execRlcB (s : State) : Result := opRot .rlc (.reg .b) s

/-- `RLC C` (R316). -/
def execRlcC (s : State) : Result := opRot .rlc (.reg .c) s

/-- `RLC D` (R316). -/
def execRlcD (s : State) : Result := opRot .rlc (.reg .d) s

/-- `RLC E` (R316). -/
def execRlcE (s : State) : Result := opRot .rlc (.reg .e) s

/-- `RLC H` (R316). -/
def execRlcH (s : State) : Result := opRot .rlc (.reg .h) s

/-- `RLC L` (R316). -/
def execRlcL (s : State) : Result := opRot .rlc (.reg .l) s

/-- `RLC (HL)` (R316). -/
def execRlcIndHl (s : State) : Result := opRot .rlc .hlInd s

/-- `RLC A` (R316). -/
def execRlcA (s : State) : Result := opRot .rlc (.reg .a) s

/-- `RRC B` (R317). -/
def execRrcB (s : State) : Result := opRot .rrc (.reg .b) s

/-- `RRC C` (R317). -/
def execRrcC (s : State) : Result := opRot .rrc (.reg .c) s

/-- `RRC D` (R317). -/
def execRrcD (s : State) : Result := opRot .rrc (.reg .d) s

/-- `RRC E` (R317). -/
def execRrcE (s : State) : Result := opRot .rrc (.reg .e) s

/-- `RRC H` (R317). -/
def execRrcH (s : State) : Result := opRot .rrc (.reg .h) s

/-- `RRC L` (R317). -/
def execRrcL (s : State) : Result := opRot .rrc (.reg .l) s

/-- `RRC (HL)` (R317). -/
def execRrcIndHl (s : State) : Result := opRot .rrc .hlInd s

/-- `RRC A` (R317). -/
def execRrcA (s : State) : Result := opRot .rrc (.reg .a) s

/-- `RL B` (R318). -/
def execRlB (s : State) : Result := opRot .rl (.reg .b) s

/-- `RL C` (R318). -/
def execRlC (s : State) : Result := opRot .rl (.reg .c) s

/-- `RL D` (R318). -/
def execRlD (s : State) : Result := opRot .rl (.reg .d) s

/-- `RL E` (R318). -/
def execRlE (s : State) : Result := opRot .rl (.reg .e) s

/-- `RL H` (R318). -/
def execRlH (s : State) : Result := opRot .rl (.reg .h) s

/-- `RL L` (R318). -/
def execRlL (s : State) : Result := opRot .rl (.reg .l) s

/-- `RL (HL)` (R318). -/
def execRlIndHl (s : State) : Result := opRot .rl .hlInd s

/-- `RL A` (R318). -/
def execRlA (s : State) : Result := opRot .rl (.reg .a) s

/-- `RR B` (R319). -/
def execRrB (s : State) : Result := opRot .rr (.reg .b) s

/-- `RR C` (R319). -/
def execRrC (s : State) : Result := opRot .rr (.reg .c) s

/-- `RR D` (R319). -/
def execRrD (s : State) : Result := opRot .rr (.reg .d) s

/-- `RR E` (R319). -/
def execRrE (s : State) : Result := opRot .rr (.reg .e) s

/-- `RR H` (R319). -/
def execRrH (s : State) : Result := opRot .rr (.reg .h) s

/-- `RR L` (R319). -/
def execRrL (s : State) : Result := opRot .rr (.reg .l) s

/-- `RR (HL)` (R319). -/
def execRrIndHl (s : State) : Result := opRot .rr .hlInd s

/-- `RR A` (R319). -/
def execRrA (s : State) : Result := opRot .rr (.reg .a) s

/-- `SLA B` (R320). -/
def execSlaB (s : State) : Result := opRot .sla (.reg .b) s

/-- `SLA C` (R320). -/
def execSlaC (s : State) : Result := opRot .sla (.reg .c) s

/-- `SLA D` (R320). -/
def execSlaD (s : State) : Result := opRot .sla (.reg .d) s

/-- `SLA E` (R320). -/
def execSlaE (s : State) : Result := opRot .sla (.reg .e) s

/-- `SLA H` (R320). -/
def execSlaH (s : State) : Result := opRot .sla (.reg .h) s

/-- `SLA L` (R320). -/
def execSlaL (s : State) : Result := opRot .sla (.reg .l) s

/-- `SLA (HL)` (R320). -/
def execSlaIndHl (s : State) : Result := opRot .sla .hlInd s

/-- `SLA A` (R320). -/
def execSlaA (s : State) : Result := opRot .sla (.reg .a) s

/-- `SRA B` (R321). -/
def execSraB (s : State) : Result := opRot .sra (.reg .b) s

/-- `SRA C` (R321). -/
def execSraC (s : State) : Result := opRot .sra (.reg .c) s

/-- `SRA D` (R321). -/
def execSraD (s : State) : Result := opRot .sra (.reg .d) s

/-- `SRA E` (R321). -/
def execSraE (s : State) : Result := opRot .sra (.reg .e) s

/-- `SRA H` (R321). -/
def execSraH (s : State) : Result := opRot .sra (.reg .h) s

/-- `SRA L` (R321). -/
def execSraL (s : State) : Result := opRot .sra (.reg .l) s

/-- `SRA (HL)` (R321). -/
def execSraIndHl (s : State) : Result := opRot .sra .hlInd s

/-- `SRA A` (R321). -/
def execSraA (s : State) : Result := opRot .sra (.reg .a) s

/-- `SWAP B` (R322). -/
def execSwapB (s : State) : Result := opRot .swap (.reg .b) s

/-- `SWAP C` (R322). -/
def execSwapC (s : State) : Result := opRot .swap (.reg .c) s

/-- `SWAP D` (R322). -/
def execSwapD (s : State) : Result := opRot .swap (.reg .d) s

/-- `SWAP E` (R322). -/
def execSwapE (s : State) : Result := opRot .swap (.reg .e) s

/-- `SWAP H` (R322). -/
def execSwapH (s : State) : Result := opRot .swap (.reg .h) s

/-- `SWAP L` (R322). -/
def execSwapL (s : State) : Result := opRot .swap (.reg .l) s

/-- `SWAP (HL)` (R322). -/
def execSwapIndHl (s : State) : Result := opRot .swap .hlInd s

/-- `SWAP A` (R322). -/
def execSwapA (s : State) : Result := opRot .swap (.reg .a) s

/-- `SRL B` (R323). -/
def execSrlB (s : State) : Result := opRot .srl (.reg .b) s

/-- `SRL C` (R323). -/
def execSrlC (s : State) : Result := opRot .srl (.reg .c) s

/-- `SRL D` (R323). -/
def execSrlD (s : State) : Result := opRot .srl (.reg .d) s

/-- `SRL E` (R323). -/
def execSrlE (s : State) : Result := opRot .srl (.reg .e) s

/-- `SRL H` (R323). -/
def execSrlH (s : State) : Result := opRot .srl (.reg .h) s

/-- `SRL L` (R323). -/
def execSrlL (s : State) : Result := opRot .srl (.reg .l) s

/-- `SRL (HL)` (R323). -/
def execSrlIndHl (s : State) : Result := opRot .srl .hlInd s

/-- `SRL A` (R323). -/
def execSrlA (s : State) : Result := opRot .srl (.reg .a) s

/-- `BIT 0,B` (R324). -/
def execBit0B (s : State) : Result := opBit 0 (.reg .b) s

/-- `BIT 0,C` (R324). -/
def execBit0C (s : State) : Result := opBit 0 (.reg .c) s

/-- `BIT 0,D` (R324). -/
def execBit0D (s : State) : Result := opBit 0 (.reg .d) s

/-- `BIT 0,E` (R324). -/
def execBit0E (s : State) : Result := opBit 0 (.reg .e) s

/-- `BIT 0,H` (R324). -/
def execBit0H (s : State) : Result := opBit 0 (.reg .h) s

/-- `BIT 0,L` (R324). -/
def execBit0L (s : State) : Result := opBit 0 (.reg .l) s

/-- `BIT 0,(HL)` (R324). -/
def execBit0IndHl (s : State) : Result := opBit 0 .hlInd s

/-- `BIT 0,A` (R324). -/
def execBit0A (s : State) : Result := opBit 0 (.reg .a) s

/-- `BIT 1,B` (R324). -/
def execBit1B (s : State) : Result := opBit 1 (.reg .b) s

/-- `BIT 1,C` (R324). -/
def execBit1C (s : State) : Result := opBit 1 (.reg .c) s

/-- `BIT 1,D` (R324). -/
def execBit1D (s : State) : Result := opBit 1 (.reg .d) s

/-- `BIT 1,E` (R324). -/
def execBit1E (s : State) : Result := opBit 1 (.reg .e) s

/-- `BIT 1,H` (R324). -/
def execBit1H (s : State) : Result := opBit 1 (.reg .h) s

/-- `BIT 1,L` (R324). -/
def execBit1L (s : State) : Result := opBit 1 (.reg .l) s

/-- `BIT 1,(HL)` (R324). -/
def execBit1IndHl (s : State) : Result := opBit 1 .hlInd s

/-- `BIT 1,A` (R324). -/
def execBit1A (s : State) : Result := opBit 1 (.reg .a) s

/-- `BIT 2,B` (R324). -/
def execBit2B (s : State) : Result := opBit 2 (.reg .b) s

/-- `BIT 2,C` (R324). -/
def execBit2C (s : State) : Result := opBit 2 (.reg .c) s

/-- `BIT 2,D` (R324). -/
def execBit2D (s : State) : Result := opBit 2 (.reg .d) s

/-- `BIT 2,E` (R324). -/
def execBit2E (s : State) : Result := opBit 2 (.reg .e) s

/-- `BIT 2,H` (R324). -/
def execBit2H (s : State) : Result := opBit 2 (.reg .h) s

/-- `BIT 2,L` (R324). -/
def execBit2L (s : State) : Result := opBit 2 (.reg .l) s

/-- `BIT 2,(HL)` (R324). -/
def execBit2IndHl (s : State) : Result := opBit 2 .hlInd s

/-- `BIT 2,A` (R324). -/
def execBit2A (s : State) : Result := opBit 2 (.reg .a) s

/-- `BIT 3,B` (R324). -/
def execBit3B (s : State) : Result := opBit 3 (.reg .b) s

/-- `BIT 3,C` (R324). -/
def execBit3C (s : State) : Result := opBit 3 (.reg .c) s

/-- `BIT 3,D` (R324). -/
def execBit3D (s : State) : Result := opBit 3 (.reg .d) s

/-- `BIT 3,E` (R324). -/
def execBit3E (s : State) : Result := opBit 3 (.reg .e) s

/-- `BIT 3,H` (R324). -/
def execBit3H (s : State) : Result := opBit 3 (.reg .h) s

/-- `BIT 3,L` (R324). -/
def execBit3L (s : State) : Result := opBit 3 (.reg .l) s

/-- `BIT 3,(HL)` (R324). -/
def execBit3IndHl (s : State) : Result := opBit 3 .hlInd s

/-- `BIT 3,A` (R324). -/
def execBit3A (s : State) : Result := opBit 3 (.reg .a) s

/-- `BIT 4,B` (R324). -/
def execBit4B (s : State) : Result := opBit 4 (.reg .b) s

/-- `BIT 4,C` (R324). -/
def execBit4C (s : State) : Result := opBit 4 (.reg .c) s

/-- `BIT 4,D` (R324). -/
def execBit4D (s : State) : Result := opBit 4 (.reg .d) s

/-- `BIT 4,E` (R324). -/
def execBit4E (s : State) : Result := opBit 4 (.reg .e) s

/-- `BIT 4,H` (R324). -/
def execBit4H (s : State) : Result := opBit 4 (.reg .h) s

/-- `BIT 4,L` (R324). -/
def execBit4L (s : State) : Result := opBit 4 (.reg .l) s

/-- `BIT 4,(HL)` (R324). -/
def execBit4IndHl (s : State) : Result := opBit 4 .hlInd s

/-- `BIT 4,A` (R324). -/
def execBit4A (s : State) : Result := opBit 4 (.reg .a) s

/-- `BIT 5,B` (R324). -/
def execBit5B (s : State) : Result := opBit 5 (.reg .b) s

/-- `BIT 5,C` (R324). -/
def execBit5C (s : State) : Result := opBit 5 (.reg .c) s

/-- `BIT 5,D` (R324). -/
def execBit5D (s : State) : Result := opBit 5 (.reg .d) s

/-- `BIT 5,E` (R324). -/
def execBit5E (s : State) : Result := opBit 5 (.reg .e) s

/-- `BIT 5,H` (R324). -/
def execBit5H (s : State) : Result := opBit 5 (.reg .h) s

/-- `BIT 5,L` (R324). -/
def execBit5L (s : State) : Result := opBit 5 (.reg .l) s

/-- `BIT 5,(HL)` (R324). -/
def execBit5IndHl (s : State) : Result := opBit 5 .hlInd s

/-- `BIT 5,A` (R324). -/
def execBit5A (s : State) : Result := opBit 5 (.reg .a) s

/-- `BIT 6,B` (R324). -/
def execBit6B (s : State) : Result := opBit 6 (.reg .b) s

/-- `BIT 6,C` (R324). -/
def execBit6C (s : State) : Result := opBit 6 (.reg .c) s

/-- `BIT 6,D` (R324). -/
def execBit6D (s : State) : Result := opBit 6 (.reg .d) s

/-- `BIT 6,E` (R324). -/
def execBit6E (s : State) : Result := opBit 6 (.reg .e) s

/-- `BIT 6,H` (R324). -/
def execBit6H (s : State) : Result := opBit 6 (.reg .h) s

/-- `BIT 6,L` (R324). -/
def execBit6L (s : State) : Result := opBit 6 (.reg .l) s

/-- `BIT 6,(HL)` (R324). -/
def execBit6IndHl (s : State) : Result := opBit 6 .hlInd s

/-- `BIT 6,A` (R324). -/
def execBit6A (s : State) : Result := opBit 6 (.reg .a) s

/-- `BIT 7,B` (R324). -/
def execBit7B (s : State) : Result := opBit 7 (.reg .b) s

/-- `BIT 7,C` (R324). -/
def execBit7C (s : State) : Result := opBit 7 (.reg .c) s

/-- `BIT 7,D` (R324). -/
def execBit7D (s : State) : Result := opBit 7 (.reg .d) s

/-- `BIT 7,E` (R324). -/
def execBit7E (s : State) : Result := opBit 7 (.reg .e) s

/-- `BIT 7,H` (R324). -/
def execBit7H (s : State) : Result := opBit 7 (.reg .h) s

/-- `BIT 7,L` (R324). -/
def execBit7L (s : State) : Result := opBit 7 (.reg .l) s

/-- `BIT 7,(HL)` (R324). -/
def execBit7IndHl (s : State) : Result := opBit 7 .hlInd s

/-- `BIT 7,A` (R324). -/
def execBit7A (s : State) : Result := opBit 7 (.reg .a) s

/-- `RES 0,B` (R325). -/
def execRes0B (s : State) : Result := opRes 0 (.reg .b) s

/-- `RES 0,C` (R325). -/
def execRes0C (s : State) : Result := opRes 0 (.reg .c) s

/-- `RES 0,D` (R325). -/
def execRes0D (s : State) : Result := opRes 0 (.reg .d) s

/-- `RES 0,E` (R325). -/
def execRes0E (s : State) : Result := opRes 0 (.reg .e) s

/-- `RES 0,H` (R325). -/
def execRes0H (s : State) : Result := opRes 0 (.reg .h) s

/-- `RES 0,L` (R325). -/
def execRes0L (s : State) : Result := opRes 0 (.reg .l) s

/-- `RES 0,(HL)` (R325). -/
def execRes0IndHl (s : State) : Result := opRes 0 .hlInd s

/-- `RES 0,A` (R325). -/
def execRes0A (s : State) : Result := opRes 0 (.reg .a) s

/-- `RES 1,B` (R325). -/
def execRes1B (s : State) : Result := opRes 1 (.reg .b) s

/-- `RES 1,C` (R325). -/
def execRes1C (s : State) : Result := opRes 1 (.reg .c) s

/-- `RES 1,D` (R325). -/
def execRes1D (s : State) : Result := opRes 1 (.reg .d) s

/-- `RES 1,E` (R325). -/
def execRes1E (s : State) : Result := opRes 1 (.reg .e) s

/-- `RES 1,H` (R325). -/
def execRes1H (s : State) : Result := opRes 1 (.reg .h) s

/-- `RES 1,L` (R325). -/
def execRes1L (s : State) : Result := opRes 1 (.reg .l) s

/-- `RES 1,(HL)` (R325). -/
def execRes1IndHl (s : State) : Result := opRes 1 .hlInd s

/-- `RES 1,A` (R325). -/
def execRes1A (s : State) : Result := opRes 1 (.reg .a) s

/-- `RES 2,B` (R325). -/
def execRes2B (s : State) : Result := opRes 2 (.reg .b) s

/-- `RES 2,C` (R325). -/
def execRes2C (s : State) : Result := opRes 2 (.reg .c) s

/-- `RES 2,D` (R325). -/
def execRes2D (s : State) : Result := opRes 2 (.reg .d) s

/-- `RES 2,E` (R325). -/
def execRes2E (s : State) : Result := opRes 2 (.reg .e) s

/-- `RES 2,H` (R325). -/
def execRes2H (s : State) : Result := opRes 2 (.reg .h) s

/-- `RES 2,L` (R325). -/
def execRes2L (s : State) : Result := opRes 2 (.reg .l) s

/-- `RES 2,(HL)` (R325). -/
def execRes2IndHl (s : State) : Result := opRes 2 .hlInd s

/-- `RES 2,A` (R325). -/
def execRes2A (s : State) : Result := opRes 2 (.reg .a) s

/-- `RES 3,B` (R325). -/
def execRes3B (s : State) : Result := opRes 3 (.reg .b) s

/-- `RES 3,C` (R325). -/
def execRes3C (s : State) : Result := opRes 3 (.reg .c) s

/-- `RES 3,D` (R325). -/
def execRes3D (s : State) : Result := opRes 3 (.reg .d) s

/-- `RES 3,E` (R325). -/
def execRes3E (s : State) : Result := opRes 3 (.reg .e) s

/-- `RES 3,H` (R325). -/
def execRes3H (s : State) : Result := opRes 3 (.reg .h) s

/-- `RES 3,L` (R325). -/
def execRes3L (s : State) : Result := opRes 3 (.reg .l) s

/-- `RES 3,(HL)` (R325). -/
def execRes3IndHl (s : State) : Result := opRes 3 .hlInd s

/-- `RES 3,A` (R325). -/
def execRes3A (s : State) : Result := opRes 3 (.reg .a) s

/-- `RES 4,B` (R325). -/
def execRes4B (s : State) : Result := opRes 4 (.reg .b) s

/-- `RES 4,C` (R325). -/
def execRes4C (s : State) : Result := opRes 4 (.reg .c) s

/-- `RES 4,D` (R325). -/
def execRes4D (s : State) : Result := opRes 4 (.reg .d) s

/-- `RES 4,E` (R325). -/
def execRes4E (s : State) : Result := opRes 4 (.reg .e) s

/-- `RES 4,H` (R325). -/
def execRes4H (s : State) : Result := opRes 4 (.reg .h) s

/-- `RES 4,L` (R325). -/
def execRes4L (s : State) : Result := opRes 4 (.reg .l) s

/-- `RES 4,(HL)` (R325). -/
def execRes4IndHl (s : State) : Result := opRes 4 .hlInd s

/-- `RES 4,A` (R325). -/
def execRes4A (s : State) : Result := opRes 4 (.reg .a) s

/-- `RES 5,B` (R325). -/
def execRes5B (s : State) : Result := opRes 5 (.reg .b) s

/-- `RES 5,C` (R325). -/
def execRes5C (s : State) : Result := opRes 5 (.reg .c) s

/-- `RES 5,D` (R325). -/
def execRes5D (s : State) : Result := opRes 5 (.reg .d) s

/-- `RES 5,E` (R325). -/
def execRes5E (s : State) : Result := opRes 5 (.reg .e) s

/-- `RES 5,H` (R325). -/
def execRes5H (s : State) : Result := opRes 5 (.reg .h) s

/-- `RES 5,L` (R325). -/
def execRes5L (s : State) : Result := opRes 5 (.reg .l) s

/-- `RES 5,(HL)` (R325). -/
def execRes5IndHl (s : State) : Result := opRes 5 .hlInd s

/-- `RES 5,A` (R325). -/
def execRes5A (s : State) : Result := opRes 5 (.reg .a) s

/-- `RES 6,B` (R325). -/
def execRes6B (s : State) : Result := opRes 6 (.reg .b) s

/-- `RES 6,C` (R325). -/
def execRes6C (s : State) : Result := opRes 6 (.reg .c) s

/-- `RES 6,D` (R325). -/
def execRes6D (s : State) : Result := opRes 6 (.reg .d) s

/-- `RES 6,E` (R325). -/
def execRes6E (s : State) : Result := opRes 6 (.reg .e) s

/-- `RES 6,H` (R325). -/
def execRes6H (s : State) : Result := opRes 6 (.reg .h) s

/-- `RES 6,L` (R325). -/
def execRes6L (s : State) : Result := opRes 6 (.reg .l) s

/-- `RES 6,(HL)` (R325). -/
def execRes6IndHl (s : State) : Result := opRes 6 .hlInd s

/-- `RES 6,A` (R325). -/
def execRes6A (s : State) : Result := opRes 6 (.reg .a) s

/-- `RES 7,B` (R325). -/
def execRes7B (s : State) : Result := opRes 7 (.reg .b) s

/-- `RES 7,C` (R325). -/
def execRes7C (s : State) : Result := opRes 7 (.reg .c) s

/-- `RES 7,D` (R325). -/
def execRes7D (s : State) : Result := opRes 7 (.reg .d) s

/-- `RES 7,E` (R325). -/
def execRes7E (s : State) : Result := opRes 7 (.reg .e) s

/-- `RES 7,H` (R325). -/
def execRes7H (s : State) : Result := opRes 7 (.reg .h) s

/-- `RES 7,L` (R325). -/
def execRes7L (s : State) : Result := opRes 7 (.reg .l) s

/-- `RES 7,(HL)` (R325). -/
def execRes7IndHl (s : State) : Result := opRes 7 .hlInd s

/-- `RES 7,A` (R325). -/
def execRes7A (s : State) : Result := opRes 7 (.reg .a) s

/-- `SET 0,B` (R326). -/
def execSet0B (s : State) : Result := opSet 0 (.reg .b) s

/-- `SET 0,C` (R326). -/
def execSet0C (s : State) : Result := opSet 0 (.reg .c) s

/-- `SET 0,D` (R326). -/
def execSet0D (s : State) : Result := opSet 0 (.reg .d) s

/-- `SET 0,E` (R326). -/
def execSet0E (s : State) : Result := opSet 0 (.reg .e) s

/-- `SET 0,H` (R326). -/
def execSet0H (s : State) : Result := opSet 0 (.reg .h) s

/-- `SET 0,L` (R326). -/
def execSet0L (s : State) : Result := opSet 0 (.reg .l) s

/-- `SET 0,(HL)` (R326). -/
def execSet0IndHl (s : State) : Result := opSet 0 .hlInd s

/-- `SET 0,A` (R326). -/
def execSet0A (s : State) : Result := opSet 0 (.reg .a) s

/-- `SET 1,B` (R326). -/
def execSet1B (s : State) : Result := opSet 1 (.reg .b) s

/-- `SET 1,C` (R326). -/
def execSet1C (s : State) : Result := opSet 1 (.reg .c) s

/-- `SET 1,D` (R326). -/
def execSet1D (s : State) : Result := opSet 1 (.reg .d) s

/-- `SET 1,E` (R326). -/
def execSet1E (s : State) : Result := opSet 1 (.reg .e) s

/-- `SET 1,H` (R326). -/
def execSet1H (s : State) : Result := opSet 1 (.reg .h) s

/-- `SET 1,L` (R326). -/
def execSet1L (s : State) : Result := opSet 1 (.reg .l) s

/-- `SET 1,(HL)` (R326). -/
def execSet1IndHl (s : State) : Result := opSet 1 .hlInd s

/-- `SET 1,A` (R326). -/
def execSet1A (s : State) : Result := opSet 1 (.reg .a) s

/-- `SET 2,B` (R326). -/
def execSet2B (s : State) : Result := opSet 2 (.reg .b) s

/-- `SET 2,C` (R326). -/
def execSet2C (s : State) : Result := opSet 2 (.reg .c) s

/-- `SET 2,D` (R326). -/
def execSet2D (s : State) : Result := opSet 2 (.reg .d) s

/-- `SET 2,E` (R326). -/
def execSet2E (s : State) : Result := opSet 2 (.reg .e) s

/-- `SET 2,H` (R326). -/
def execSet2H (s : State) : Result := opSet 2 (.reg .h) s

/-- `SET 2,L` (R326). -/
def execSet2L (s : State) : Result := opSet 2 (.reg .l) s

/-- `SET 2,(HL)` (R326). -/
def execSet2IndHl (s : State) : Result := opSet 2 .hlInd s

/-- `SET 2,A` (R326). -/
def execSet2A (s : State) : Result := opSet 2 (.reg .a) s

/-- `SET 3,B` (R326). -/
def execSet3B (s : State) : Result := opSet 3 (.reg .b) s

/-- `SET 3,C` (R326). -/
def execSet3C (s : State) : Result := opSet 3 (.reg .c) s

/-- `SET 3,D` (R326). -/
def execSet3D (s : State) : Result := opSet 3 (.reg .d) s

/-- `SET 3,E` (R326). -/
def execSet3E (s : State) : Result := opSet 3 (.reg .e) s

/-- `SET 3,H` (R326). -/
def execSet3H (s : State) : Result := opSet 3 (.reg .h) s

/-- `SET 3,L` (R326). -/
def execSet3L (s : State) : Result := opSet 3 (.reg .l) s

/-- `SET 3,(HL)` (R326). -/
def execSet3IndHl (s : State) : Result := opSet 3 .hlInd s

/-- `SET 3,A` (R326). -/
def execSet3A (s : State) : Result := opSet 3 (.reg .a) s

/-- `SET 4,B` (R326). -/
def execSet4B (s : State) : Result := opSet 4 (.reg .b) s

/-- `SET 4,C` (R326). -/
def execSet4C (s : State) : Result := opSet 4 (.reg .c) s

/-- `SET 4,D` (R326). -/
def execSet4D (s : State) : Result := opSet 4 (.reg .d) s

/-- `SET 4,E` (R326). -/
def execSet4E (s : State) : Result := opSet 4 (.reg .e) s

/-- `SET 4,H` (R326). -/
def execSet4H (s : State) : Result := opSet 4 (.reg .h) s

/-- `SET 4,L` (R326). -/
def execSet4L (s : State) : Result := opSet 4 (.reg .l) s

/-- `SET 4,(HL)` (R326). -/
def execSet4IndHl (s : State) : Result := opSet 4 .hlInd s

/-- `SET 4,A` (R326). -/
def execSet4A (s : State) : Result := opSet 4 (.reg .a) s

/-- `SET 5,B` (R326). -/
def execSet5B (s : State) : Result := opSet 5 (.reg .b) s

/-- `SET 5,C` (R326). -/
def execSet5C (s : State) : Result := opSet 5 (.reg .c) s

/-- `SET 5,D` (R326). -/
def execSet5D (s : State) : Result := opSet 5 (.reg .d) s

/-- `SET 5,E` (R326). -/
def execSet5E (s : State) : Result := opSet 5 (.reg .e) s

/-- `SET 5,H` (R326). -/
def execSet5H (s : State) : Result := opSet 5 (.reg .h) s

/-- `SET 5,L` (R326). -/
def execSet5L (s : State) : Result := opSet 5 (.reg .l) s

/-- `SET 5,(HL)` (R326). -/
def execSet5IndHl (s : State) : Result := opSet 5 .hlInd s

/-- `SET 5,A` (R326). -/
def execSet5A (s : State) : Result := opSet 5 (.reg .a) s

/-- `SET 6,B` (R326). -/
def execSet6B (s : State) : Result := opSet 6 (.reg .b) s

/-- `SET 6,C` (R326). -/
def execSet6C (s : State) : Result := opSet 6 (.reg .c) s

/-- `SET 6,D` (R326). -/
def execSet6D (s : State) : Result := opSet 6 (.reg .d) s

/-- `SET 6,E` (R326). -/
def execSet6E (s : State) : Result := opSet 6 (.reg .e) s

/-- `SET 6,H` (R326). -/
def execSet6H (s : State) : Result := opSet 6 (.reg .h) s

/-- `SET 6,L` (R326). -/
def execSet6L (s : State) : Result := opSet 6 (.reg .l) s

/-- `SET 6,(HL)` (R326). -/
def execSet6IndHl (s : State) : Result := opSet 6 .hlInd s

/-- `SET 6,A` (R326). -/
def execSet6A (s : State) : Result := opSet 6 (.reg .a) s

/-- `SET 7,B` (R326). -/
def execSet7B (s : State) : Result := opSet 7 (.reg .b) s

/-- `SET 7,C` (R326). -/
def execSet7C (s : State) : Result := opSet 7 (.reg .c) s

/-- `SET 7,D` (R326). -/
def execSet7D (s : State) : Result := opSet 7 (.reg .d) s

/-- `SET 7,E` (R326). -/
def execSet7E (s : State) : Result := opSet 7 (.reg .e) s

/-- `SET 7,H` (R326). -/
def execSet7H (s : State) : Result := opSet 7 (.reg .h) s

/-- `SET 7,L` (R326). -/
def execSet7L (s : State) : Result := opSet 7 (.reg .l) s

/-- `SET 7,(HL)` (R326). -/
def execSet7IndHl (s : State) : Result := opSet 7 .hlInd s

/-- `SET 7,A` (R326). -/
def execSet7A (s : State) : Result := opSet 7 (.reg .a) s

end Sys2Proof.Machine
end

