-- ==== Sys2Proof/Machine/IncDec.lean ====
section
/-! DEFINITION. The increment, decrement and 16-bit add instructions (43_incdec_add16.md R260 to R267): shared shapes first, then
one meaning per row of the opcode table. Each is applied to the state after the instruction's own bytes have
been fetched (30_encoding.md R144). -/

namespace Sys2Proof.Machine

/-- `INC r`, `INC (HL)` (R260, R261): 4 ticks, 12 for the byte at `HL`. -/
def opInc (x : Slot) (s : State) : Result :=
  let r := inc8 (readSlot s x) s.flags.c
  finish (4 + 2 * slotCost x) (writeSlot (s.setFlags r.flags) x r.value)

/-- `DEC r`, `DEC (HL)` (R262, R263): 4 ticks, 12 for the byte at `HL`. -/
def opDec (x : Slot) (s : State) : Result :=
  let r := dec8 (readSlot s x) s.flags.c
  finish (4 + 2 * slotCost x) (writeSlot (s.setFlags r.flags) x r.value)

/-- `INC rp` (R264): 8 ticks, no flag. -/
def opIncPair (p : Pair) (s : State) : Result := finish 8 (writePair s p (readPair s p + 1#16))

/-- `DEC rp` (R265): 8 ticks, no flag. -/
def opDecPair (p : Pair) (s : State) : Result := finish 8 (writePair s p (readPair s p - 1#16))

/-- `ADD HL,rp` (R266): 8 ticks, Z kept. -/
def opAddHl (p : Pair) (s : State) : Result :=
  finish 8 ((s.setFlags (addHlFlags s.hl (readPair s p) s.flags.z)).setHl (s.hl + readPair s p))

/-- `ADD SP,e8` (R267): 16 ticks. -/
def opAddSp (e : Byte) (s : State) : Result :=
  finish 16 ((s.setFlags (spAddFlags s.cfg.spAddFlags s.cpu.sp e)).setSp (spPlus s.cpu.sp e))

/-- `INC BC` (R264). -/
def execIncBc (s : State) : Result := opIncPair .bc s

/-- `INC B` (R260). -/
def execIncB (s : State) : Result := opInc (.reg .b) s

/-- `DEC B` (R262). -/
def execDecB (s : State) : Result := opDec (.reg .b) s

/-- `ADD HL,BC` (R266). -/
def execAddHlBc (s : State) : Result := opAddHl .bc s

/-- `DEC BC` (R265). -/
def execDecBc (s : State) : Result := opDecPair .bc s

/-- `INC C` (R260). -/
def execIncC (s : State) : Result := opInc (.reg .c) s

/-- `DEC C` (R262). -/
def execDecC (s : State) : Result := opDec (.reg .c) s

/-- `INC DE` (R264). -/
def execIncDe (s : State) : Result := opIncPair .de s

/-- `INC D` (R260). -/
def execIncD (s : State) : Result := opInc (.reg .d) s

/-- `DEC D` (R262). -/
def execDecD (s : State) : Result := opDec (.reg .d) s

/-- `ADD HL,DE` (R266). -/
def execAddHlDe (s : State) : Result := opAddHl .de s

/-- `DEC DE` (R265). -/
def execDecDe (s : State) : Result := opDecPair .de s

/-- `INC E` (R260). -/
def execIncE (s : State) : Result := opInc (.reg .e) s

/-- `DEC E` (R262). -/
def execDecE (s : State) : Result := opDec (.reg .e) s

/-- `INC HL` (R264). -/
def execIncHl (s : State) : Result := opIncPair .hl s

/-- `INC H` (R260). -/
def execIncH (s : State) : Result := opInc (.reg .h) s

/-- `DEC H` (R262). -/
def execDecH (s : State) : Result := opDec (.reg .h) s

/-- `ADD HL,HL` (R266). -/
def execAddHlHl (s : State) : Result := opAddHl .hl s

/-- `DEC HL` (R265). -/
def execDecHl (s : State) : Result := opDecPair .hl s

/-- `INC L` (R260). -/
def execIncL (s : State) : Result := opInc (.reg .l) s

/-- `DEC L` (R262). -/
def execDecL (s : State) : Result := opDec (.reg .l) s

/-- `INC SP` (R264). -/
def execIncSp (s : State) : Result := opIncPair .sp s

/-- `INC (HL)` (R261). -/
def execIncIndHl (s : State) : Result := opInc .hlInd s

/-- `DEC (HL)` (R263). -/
def execDecIndHl (s : State) : Result := opDec .hlInd s

/-- `ADD HL,SP` (R266). -/
def execAddHlSp (s : State) : Result := opAddHl .sp s

/-- `DEC SP` (R265). -/
def execDecSp (s : State) : Result := opDecPair .sp s

/-- `INC A` (R260). -/
def execIncA (s : State) : Result := opInc (.reg .a) s

/-- `DEC A` (R262). -/
def execDecA (s : State) : Result := opDec (.reg .a) s

/-- `ADD SP,e8` (R267). -/
def execAddSpE8 (e : Byte) (s : State) : Result := opAddSp e s

end Sys2Proof.Machine
end

