-- ==== Sys2Proof/Machine/Load16.lean ====
section
/-! DEFINITION. The 16-bit load and stack instructions (42_load16.md R240 to R245): shared shapes first, then
one meaning per row of the opcode table. Each is applied to the state after the instruction's own bytes have
been fetched (30_encoding.md R144). -/

namespace Sys2Proof.Machine

/-- `LD rp,n16` (R240): 12 ticks. -/
def opLdPair (p : Pair) (nn : Word) (s : State) : Result := finish 12 (writePair s p nn)

/-- `LD (n16),SP` (R241): 20 ticks. -/
def opStoreSp (nn : Word) (s : State) : Result := finish 20 (memWrite16 s nn s.cpu.sp)

/-- `LD SP,HL` (R242): 8 ticks. -/
def opLdSpHl (s : State) : Result := finish 8 (s.setSp s.hl)

/-- `LD HL,SP+e8` (R243): 12 ticks. -/
def opLdHlSp (e : Byte) (s : State) : Result :=
  finish 12 ((s.setFlags (spAddFlags s.cfg.spAddFlags s.cpu.sp e)).setHl (spPlus s.cpu.sp e))

/-- `PUSH rp2` (R244): 16 ticks. -/
def opPush (p : StackPair) (s : State) : Result := finish 16 (push16 s (readStackPair s p))

/-- `POP rp2` (R245): 12 ticks. -/
def opPop (p : StackPair) (s : State) : Result := finish 12 (writeStackPair (popState s) p (popValue s))

/-- `LD BC,n16` (R240). -/
def execLdBcN16 (nn : Word) (s : State) : Result := opLdPair .bc nn s

/-- `LD (n16),SP` (R241). -/
def execLdIndN16Sp (nn : Word) (s : State) : Result := opStoreSp nn s

/-- `LD DE,n16` (R240). -/
def execLdDeN16 (nn : Word) (s : State) : Result := opLdPair .de nn s

/-- `LD HL,n16` (R240). -/
def execLdHlN16 (nn : Word) (s : State) : Result := opLdPair .hl nn s

/-- `LD SP,n16` (R240). -/
def execLdSpN16 (nn : Word) (s : State) : Result := opLdPair .sp nn s

/-- `POP BC` (R245). -/
def execPopBc (s : State) : Result := opPop .bc s

/-- `PUSH BC` (R244). -/
def execPushBc (s : State) : Result := opPush .bc s

/-- `POP DE` (R245). -/
def execPopDe (s : State) : Result := opPop .de s

/-- `PUSH DE` (R244). -/
def execPushDe (s : State) : Result := opPush .de s

/-- `POP HL` (R245). -/
def execPopHl (s : State) : Result := opPop .hl s

/-- `PUSH HL` (R244). -/
def execPushHl (s : State) : Result := opPush .hl s

/-- `POP AF` (R245). -/
def execPopAf (s : State) : Result := opPop .af s

/-- `PUSH AF` (R244). -/
def execPushAf (s : State) : Result := opPush .af s

/-- `LD HL,SP+e8` (R243). -/
def execLdHlSpE8 (e : Byte) (s : State) : Result := opLdHlSp e s

/-- `LD SP,HL` (R242). -/
def execLdSpHl (s : State) : Result := opLdSpHl s

end Sys2Proof.Machine
end

