-- ==== Sys2Proof/Machine/Load8.lean ====
section
/-! DEFINITION. The 8-bit load instructions (41_load8.md R210 to R228): shared shapes first, then
one meaning per row of the opcode table. Each is applied to the state after the instruction's own bytes have
been fetched (30_encoding.md R144). -/

namespace Sys2Proof.Machine

/-- `LD r,r'`, `LD r,(HL)`, `LD (HL),r` (R210 to R212): 4 ticks and 4 for a memory access. -/
def opLd (d x : Slot) (s : State) : Result :=
  finish (4 + slotCost d + slotCost x) (writeSlot s d (readSlot s x))

/-- `LD r,n8`, `LD (HL),n8` (R213, R214): 8 ticks and 4 for a memory access. -/
def opLdImm (d : Slot) (n : Byte) (s : State) : Result := finish (8 + slotCost d) (writeSlot s d n)

/-- Store `A` at an address (R215, R216, R223, R225, R227). -/
def opStoreA (addr : Word) (cost : Nat) (s : State) : Result := finish cost (busWrite s addr s.cpu.a)

/-- Load `A` from an address (R219, R220, R224, R226, R228). -/
def opLoadA (addr : Word) (cost : Nat) (s : State) : Result := finish cost (s.setReg .a (busRead s addr))

/-- `LD (HL+),A`, `LD (HL-),A` (R217, R218): store, then step `HL`. -/
def opStoreAStep (delta : Word) (s : State) : Result := finish 8 ((busWrite s s.hl s.cpu.a).setHl (s.hl + delta))

/-- `LD A,(HL+)`, `LD A,(HL-)` (R221, R222): load, then step `HL`. -/
def opLoadAStep (delta : Word) (s : State) : Result := finish 8 ((s.setReg .a (busRead s s.hl)).setHl (s.hl + delta))

/-- `LD (BC),A` (R215). -/
def execLdIndBcA (s : State) : Result := opStoreA s.bc 8 s

/-- `LD B,n8` (R213). -/
def execLdBN8 (n : Byte) (s : State) : Result := opLdImm (.reg .b) n s

/-- `LD A,(BC)` (R219). -/
def execLdAIndBc (s : State) : Result := opLoadA s.bc 8 s

/-- `LD C,n8` (R213). -/
def execLdCN8 (n : Byte) (s : State) : Result := opLdImm (.reg .c) n s

/-- `LD (DE),A` (R216). -/
def execLdIndDeA (s : State) : Result := opStoreA s.de 8 s

/-- `LD D,n8` (R213). -/
def execLdDN8 (n : Byte) (s : State) : Result := opLdImm (.reg .d) n s

/-- `LD A,(DE)` (R220). -/
def execLdAIndDe (s : State) : Result := opLoadA s.de 8 s

/-- `LD E,n8` (R213). -/
def execLdEN8 (n : Byte) (s : State) : Result := opLdImm (.reg .e) n s

/-- `LD (HL+),A` (R217). -/
def execLdIndHlIncA (s : State) : Result := opStoreAStep 1#16 s

/-- `LD H,n8` (R213). -/
def execLdHN8 (n : Byte) (s : State) : Result := opLdImm (.reg .h) n s

/-- `LD A,(HL+)` (R221). -/
def execLdAIndHlInc (s : State) : Result := opLoadAStep 1#16 s

/-- `LD L,n8` (R213). -/
def execLdLN8 (n : Byte) (s : State) : Result := opLdImm (.reg .l) n s

/-- `LD (HL-),A` (R218). -/
def execLdIndHlDecA (s : State) : Result := opStoreAStep (-1#16) s

/-- `LD (HL),n8` (R214). -/
def execLdIndHlN8 (n : Byte) (s : State) : Result := opLdImm .hlInd n s

/-- `LD A,(HL-)` (R222). -/
def execLdAIndHlDec (s : State) : Result := opLoadAStep (-1#16) s

/-- `LD A,n8` (R213). -/
def execLdAN8 (n : Byte) (s : State) : Result := opLdImm (.reg .a) n s

/-- `LD B,B` (R210). -/
def execLdBB (s : State) : Result := opLd (.reg .b) (.reg .b) s

/-- `LD B,C` (R210). -/
def execLdBC (s : State) : Result := opLd (.reg .b) (.reg .c) s

/-- `LD B,D` (R210). -/
def execLdBD (s : State) : Result := opLd (.reg .b) (.reg .d) s

/-- `LD B,E` (R210). -/
def execLdBE (s : State) : Result := opLd (.reg .b) (.reg .e) s

/-- `LD B,H` (R210). -/
def execLdBH (s : State) : Result := opLd (.reg .b) (.reg .h) s

/-- `LD B,L` (R210). -/
def execLdBL (s : State) : Result := opLd (.reg .b) (.reg .l) s

/-- `LD B,(HL)` (R211). -/
def execLdBIndHl (s : State) : Result := opLd (.reg .b) .hlInd s

/-- `LD B,A` (R210). -/
def execLdBA (s : State) : Result := opLd (.reg .b) (.reg .a) s

/-- `LD C,B` (R210). -/
def execLdCB (s : State) : Result := opLd (.reg .c) (.reg .b) s

/-- `LD C,C` (R210). -/
def execLdCC (s : State) : Result := opLd (.reg .c) (.reg .c) s

/-- `LD C,D` (R210). -/
def execLdCD (s : State) : Result := opLd (.reg .c) (.reg .d) s

/-- `LD C,E` (R210). -/
def execLdCE (s : State) : Result := opLd (.reg .c) (.reg .e) s

/-- `LD C,H` (R210). -/
def execLdCH (s : State) : Result := opLd (.reg .c) (.reg .h) s

/-- `LD C,L` (R210). -/
def execLdCL (s : State) : Result := opLd (.reg .c) (.reg .l) s

/-- `LD C,(HL)` (R211). -/
def execLdCIndHl (s : State) : Result := opLd (.reg .c) .hlInd s

/-- `LD C,A` (R210). -/
def execLdCA (s : State) : Result := opLd (.reg .c) (.reg .a) s

/-- `LD D,B` (R210). -/
def execLdDB (s : State) : Result := opLd (.reg .d) (.reg .b) s

/-- `LD D,C` (R210). -/
def execLdDC (s : State) : Result := opLd (.reg .d) (.reg .c) s

/-- `LD D,D` (R210). -/
def execLdDD (s : State) : Result := opLd (.reg .d) (.reg .d) s

/-- `LD D,E` (R210). -/
def execLdDE (s : State) : Result := opLd (.reg .d) (.reg .e) s

/-- `LD D,H` (R210). -/
def execLdDH (s : State) : Result := opLd (.reg .d) (.reg .h) s

/-- `LD D,L` (R210). -/
def execLdDL (s : State) : Result := opLd (.reg .d) (.reg .l) s

/-- `LD D,(HL)` (R211). -/
def execLdDIndHl (s : State) : Result := opLd (.reg .d) .hlInd s

/-- `LD D,A` (R210). -/
def execLdDA (s : State) : Result := opLd (.reg .d) (.reg .a) s

/-- `LD E,B` (R210). -/
def execLdEB (s : State) : Result := opLd (.reg .e) (.reg .b) s

/-- `LD E,C` (R210). -/
def execLdEC (s : State) : Result := opLd (.reg .e) (.reg .c) s

/-- `LD E,D` (R210). -/
def execLdED (s : State) : Result := opLd (.reg .e) (.reg .d) s

/-- `LD E,E` (R210). -/
def execLdEE (s : State) : Result := opLd (.reg .e) (.reg .e) s

/-- `LD E,H` (R210). -/
def execLdEH (s : State) : Result := opLd (.reg .e) (.reg .h) s

/-- `LD E,L` (R210). -/
def execLdEL (s : State) : Result := opLd (.reg .e) (.reg .l) s

/-- `LD E,(HL)` (R211). -/
def execLdEIndHl (s : State) : Result := opLd (.reg .e) .hlInd s

/-- `LD E,A` (R210). -/
def execLdEA (s : State) : Result := opLd (.reg .e) (.reg .a) s

/-- `LD H,B` (R210). -/
def execLdHB (s : State) : Result := opLd (.reg .h) (.reg .b) s

/-- `LD H,C` (R210). -/
def execLdHC (s : State) : Result := opLd (.reg .h) (.reg .c) s

/-- `LD H,D` (R210). -/
def execLdHD (s : State) : Result := opLd (.reg .h) (.reg .d) s

/-- `LD H,E` (R210). -/
def execLdHE (s : State) : Result := opLd (.reg .h) (.reg .e) s

/-- `LD H,H` (R210). -/
def execLdHH (s : State) : Result := opLd (.reg .h) (.reg .h) s

/-- `LD H,L` (R210). -/
def execLdHL (s : State) : Result := opLd (.reg .h) (.reg .l) s

/-- `LD H,(HL)` (R211). -/
def execLdHIndHl (s : State) : Result := opLd (.reg .h) .hlInd s

/-- `LD H,A` (R210). -/
def execLdHA (s : State) : Result := opLd (.reg .h) (.reg .a) s

/-- `LD L,B` (R210). -/
def execLdLB (s : State) : Result := opLd (.reg .l) (.reg .b) s

/-- `LD L,C` (R210). -/
def execLdLC (s : State) : Result := opLd (.reg .l) (.reg .c) s

/-- `LD L,D` (R210). -/
def execLdLD (s : State) : Result := opLd (.reg .l) (.reg .d) s

/-- `LD L,E` (R210). -/
def execLdLE (s : State) : Result := opLd (.reg .l) (.reg .e) s

/-- `LD L,H` (R210). -/
def execLdLH (s : State) : Result := opLd (.reg .l) (.reg .h) s

/-- `LD L,L` (R210). -/
def execLdLL (s : State) : Result := opLd (.reg .l) (.reg .l) s

/-- `LD L,(HL)` (R211). -/
def execLdLIndHl (s : State) : Result := opLd (.reg .l) .hlInd s

/-- `LD L,A` (R210). -/
def execLdLA (s : State) : Result := opLd (.reg .l) (.reg .a) s

/-- `LD (HL),B` (R212). -/
def execLdIndHlB (s : State) : Result := opLd .hlInd (.reg .b) s

/-- `LD (HL),C` (R212). -/
def execLdIndHlC (s : State) : Result := opLd .hlInd (.reg .c) s

/-- `LD (HL),D` (R212). -/
def execLdIndHlD (s : State) : Result := opLd .hlInd (.reg .d) s

/-- `LD (HL),E` (R212). -/
def execLdIndHlE (s : State) : Result := opLd .hlInd (.reg .e) s

/-- `LD (HL),H` (R212). -/
def execLdIndHlH (s : State) : Result := opLd .hlInd (.reg .h) s

/-- `LD (HL),L` (R212). -/
def execLdIndHlL (s : State) : Result := opLd .hlInd (.reg .l) s

/-- `LD (HL),A` (R212). -/
def execLdIndHlA (s : State) : Result := opLd .hlInd (.reg .a) s

/-- `LD A,B` (R210). -/
def execLdAB (s : State) : Result := opLd (.reg .a) (.reg .b) s

/-- `LD A,C` (R210). -/
def execLdAC (s : State) : Result := opLd (.reg .a) (.reg .c) s

/-- `LD A,D` (R210). -/
def execLdAD (s : State) : Result := opLd (.reg .a) (.reg .d) s

/-- `LD A,E` (R210). -/
def execLdAE (s : State) : Result := opLd (.reg .a) (.reg .e) s

/-- `LD A,H` (R210). -/
def execLdAH (s : State) : Result := opLd (.reg .a) (.reg .h) s

/-- `LD A,L` (R210). -/
def execLdAL (s : State) : Result := opLd (.reg .a) (.reg .l) s

/-- `LD A,(HL)` (R211). -/
def execLdAIndHl (s : State) : Result := opLd (.reg .a) .hlInd s

/-- `LD A,A` (R210). -/
def execLdAA (s : State) : Result := opLd (.reg .a) (.reg .a) s

/-- `LDH (n8),A` (R223). -/
def execLdhIndN8A (n : Byte) (s : State) : Result := opStoreA (highPage n) 12 s

/-- `LDH (C),A` (R225). -/
def execLdhIndCA (s : State) : Result := opStoreA (highPage s.cpu.c) 8 s

/-- `LD (n16),A` (R227). -/
def execLdIndN16A (nn : Word) (s : State) : Result := opStoreA nn 16 s

/-- `LDH A,(n8)` (R224). -/
def execLdhAIndN8 (n : Byte) (s : State) : Result := opLoadA (highPage n) 12 s

/-- `LDH A,(C)` (R226). -/
def execLdhAIndC (s : State) : Result := opLoadA (highPage s.cpu.c) 8 s

/-- `LD A,(n16)` (R228). -/
def execLdAIndN16 (nn : Word) (s : State) : Result := opLoadA nn 16 s

end Sys2Proof.Machine
end

