-- ==== Sys2Proof/Machine/System.lean ====
section
/-! DEFINITION. The system instructions and the undefined opcodes (47_system.md R340 to R343): shared shapes first, then
one meaning per row of the opcode table. Each is applied to the state after the instruction's own bytes have
been fetched (30_encoding.md R144). -/

namespace Sys2Proof.Machine

/-- `NOP` (R340): 4 ticks. -/
def opNop (s : State) : Result := finish 4 s

/-- `HALT` (R341): with `IME = 0` and an enabled interrupt pending the CPU does not halt and the next opcode fetch
leaves `PC` alone; otherwise it halts. 4 ticks. -/
def opHalt (s : State) : Result :=
  if !s.cpu.ime && pend s != 0#5 then finish 4 { s with cpu.haltBug := true }
  else finish 4 { s with cpu.halted := true }

/-- `STOP` (R342): 4 ticks. -/
def opStop (s : State) : Result := finish 4 { s with cpu.stopped := true }

/-- `NOP` (R340). -/
def execNop (s : State) : Result := opNop s

/-- `STOP` (R342). -/
def execStop (s : State) : Result := opStop s

/-- `HALT` (R341). -/
def execHalt (s : State) : Result := opHalt s

/-- `ILLEGAL_D3` (R343). -/
def execIllegalD3 (s : State) : Result := raiseInvalidOpcode s

/-- `ILLEGAL_DB` (R343). -/
def execIllegalDB (s : State) : Result := raiseInvalidOpcode s

/-- `ILLEGAL_DD` (R343). -/
def execIllegalDD (s : State) : Result := raiseInvalidOpcode s

/-- `ILLEGAL_E3` (R343). -/
def execIllegalE3 (s : State) : Result := raiseInvalidOpcode s

/-- `ILLEGAL_E4` (R343). -/
def execIllegalE4 (s : State) : Result := raiseInvalidOpcode s

/-- `ILLEGAL_EB` (R343). -/
def execIllegalEB (s : State) : Result := raiseInvalidOpcode s

/-- `ILLEGAL_EC` (R343). -/
def execIllegalEC (s : State) : Result := raiseInvalidOpcode s

/-- `ILLEGAL_ED` (R343). -/
def execIllegalED (s : State) : Result := raiseInvalidOpcode s

/-- `ILLEGAL_F4` (R343). -/
def execIllegalF4 (s : State) : Result := raiseInvalidOpcode s

/-- `ILLEGAL_FC` (R343). -/
def execIllegalFC (s : State) : Result := raiseInvalidOpcode s

/-- `ILLEGAL_FD` (R343). -/
def execIllegalFD (s : State) : Result := raiseInvalidOpcode s

end Sys2Proof.Machine
end

