-- ==== Sys2Proof/Machine/PixelProcessor.lean ====
section
/-! DEFINITION. The pixel processor (60_exceptions.md R423 to R439): one dot of the scan, with the sprite search,
the fetcher, the pixel queue and the framebuffer. It reads its own memories directly (20_memory.md R77). -/

namespace Sys2Proof.Machine

/-- A byte of video RAM by offset, read by its owner (R77, R432). -/
def Ppu.vramByte (p : Ppu) (off : Nat) : Byte := Cells.read p.vram off

/-- A byte of the sprite table by offset, read by its owner (R77, R63). -/
def Ppu.oamByte (p : Ppu) (off : Nat) : Byte := Cells.read p.oam off

/-- The sprite height, 8 or 16 lines (R425, R430, R49 bit 2). -/
def Ppu.spriteHeight (p : Ppu) : Nat := if p.lcdc.getLsbD 2 then 16 else 8

/-! ## Mode 2: sprite search (R425) -/

/-- Whether entry `i` of the sprite table covers the current line (R425). -/
def Ppu.spriteOnLine (p : Ppu) (i : Nat) : Bool :=
  let y := (p.oamByte (4 * i)).toNat
  let l := p.ly.toNat
  decide (y ≤ l + 16) && decide (l + 16 < y + p.spriteHeight)

/-- `OamSearch()` (R425): the first ten entries, in table order, that cover the line. -/
def Ppu.oamSearch (p : Ppu) : Ppu :=
  { p with lineSprites := ((List.range 40).filter p.spriteOnLine).take 10 }

/-! ## Mode 3 entry (R427) -/

/-- `StartDraw()` (R427). -/
def Ppu.startDraw (p : Ppu) : Ppu :=
  { p with
    queue := [], ph := 0, fx := 0, winActive := false, col := 0, discard := p.scx.toNat % 8 }

/-! ## Window (R431) -/

/-- The window trigger's condition (R431). -/
def Ppu.windowHit (p : Ppu) : Bool :=
  p.lcdc.getLsbD 5 && !p.winActive && decide (p.col + 7 = p.wx.toNat) && decide (p.wy.toNat ≤ p.ly.toNat)

/-- `WindowTest()` (R431). -/
def Ppu.windowTest (p : Ppu) : Ppu :=
  if p.windowHit then { p with winActive := true, queue := [], ph := 0, fx := 0, discard := 0 } else p

/-! ## Sprites (R429, R430) -/

/-- `bitreverse_8` (R430). -/
def bitReverse (v : Byte) : Byte :=
  (BitVec.ofBool (v.getLsbD 0) ++ BitVec.ofBool (v.getLsbD 1) ++ BitVec.ofBool (v.getLsbD 2) ++
    BitVec.ofBool (v.getLsbD 3) ++ BitVec.ofBool (v.getLsbD 4) ++ BitVec.ofBool (v.getLsbD 5) ++
    BitVec.ofBool (v.getLsbD 6) ++ BitVec.ofBool (v.getLsbD 7) : BitVec 8)

/-- The eight 2-bit colours of a tile row, leftmost first: `{hi[7-j], lo[7-j]}` (R430, R432). -/
def tileRow (lo hi : Byte) : List (BitVec 2) :=
  (List.range 8).map fun j => BitVec.ofBool (hi.getLsbD (7 - j)) ++ BitVec.ofBool (lo.getLsbD (7 - j))

/-- The offset in video RAM of the row of a sprite's tile (R430), modulo 8192 where the row is out of range. -/
def Ppu.spriteRowAddr (p : Ppu) (i : Nat) : Nat :=
  let h : Int := p.spriteHeight
  let row0 : Int := (p.ly.toNat : Int) + 16 - (p.oamByte (4 * i)).toNat
  let row := if (p.oamByte (4 * i + 3)).getLsbD 6 then h - 1 - row0 else row0
  let t := p.oamByte (4 * i + 2)
  let t := if p.spriteHeight = 16 then t &&& 0xFE#8 else t
  ((16 * (t.toNat : Int) + 2 * row) % 8192).toNat

/-- `SpriteRow(i)` (R430): the eight pixels of the sprite on this line. -/
def Ppu.spriteRow (p : Ppu) (i : Nat) : List (BitVec 2) :=
  let a := p.spriteRowAddr i
  let lo := p.vramByte a
  let hi := p.vramByte ((a + 1) % 8192)
  if (p.oamByte (4 * i + 3)).getLsbD 5 then tileRow (bitReverse lo) (bitReverse hi) else tileRow lo hi

/-- One queue slot meets one sprite pixel (R429). -/
def Pixel.merge (s : Pixel) (px : BitVec 2) (attr : Byte) : Pixel :=
  if !s.sp && px != 0#2 && (!attr.getLsbD 7 || s.color == 0#2) then
    { color := px, sp := true, prio := attr.getLsbD 7, pal := attr.getLsbD 4 }
  else s

/-- Merge a sprite row into the live slots of the queue; pixels beyond them are lost (R429). -/
def mergeRow (attr : Byte) : List Pixel → List (BitVec 2) → List Pixel
  | s :: q, px :: row => s.merge px attr :: mergeRow attr q row
  | q, _ => q

/-- One selected entry in the sprite test: merged if its left edge is at the current column (R429). -/
def Ppu.spriteStep (p : Ppu) (i : Nat) : Ppu :=
  if (p.oamByte (4 * i + 1)).toNat = p.col + 8 then
    { p with queue := mergeRow (p.oamByte (4 * i + 3)) p.queue (p.spriteRow i) }
  else p

/-- `SpriteTest()` (R429). -/
def Ppu.spriteTest (p : Ppu) : Ppu :=
  if p.lcdc.getLsbD 1 then p.lineSprites.foldl Ppu.spriteStep p else p

/-! ## Fetcher (R432, R433) -/

/-- The map row, map column and map base of the next tile (R432). -/
def Ppu.tileRowNo (p : Ppu) : Byte := if p.winActive then p.ly - p.wy else p.ly + p.scy

/-- The tile-map entry's offset in video RAM (R432). -/
def Ppu.tileMapAddr (p : Ppu) : Nat :=
  let base := if (if p.winActive then p.lcdc.getLsbD 6 else p.lcdc.getLsbD 3) then 0x1C00 else 0x1800
  let tc := if p.winActive then p.fx % 32 else (p.scx.toNat / 8 + p.fx) % 32
  base + 32 * (p.tileRowNo.toNat / 8) + tc

/-- `TileRowAddr()` (R433): unsigned index from `0x0000`, or signed index from `0x1000`. -/
def Ppu.tileRowAddr (p : Ppu) : Nat :=
  let t := p.tileId.toNat
  if p.lcdc.getLsbD 4 then 16 * t + 2 * p.frow
  else if t < 128 then 0x1000 + 16 * t + 2 * p.frow
  else 0x1000 + 16 * t + 2 * p.frow - 16 * 256

/-- The row of eight background slots pushed at phase 8; colour 0 where `LCDC[0] = 0` (R432). -/
def Ppu.fetchedRow (p : Ppu) : List Pixel :=
  (tileRow p.lo p.hi).map fun c =>
    { color := if p.lcdc.getLsbD 0 then c else 0#2, sp := false, prio := false, pal := false }

/-- `FetcherStep()` (R432): act at phases 2, 4, 6, 8, then advance; stall at 8 while the queue holds pixels. -/
def Ppu.fetcherStep (p : Ppu) : Ppu :=
  match p.ph with
  | 2 => { p with frow := p.tileRowNo.toNat % 8, tileId := p.vramByte p.tileMapAddr, ph := 3 }
  | 4 => { p with lo := p.vramByte p.tileRowAddr, ph := 5 }
  | 6 => { p with hi := p.vramByte (p.tileRowAddr + 1), ph := 7 }
  | 8 => if p.queue.isEmpty then { p with queue := p.fetchedRow, fx := p.fx + 1, ph := 0 } else p
  | n => { p with ph := n + 1 }

/-! ## Output (R434) -/

/-- Entry `i` of a palette, bits `2i+1 : 2i` (R55). -/
def paletteEntry (pal : Byte) (i : BitVec 2) : BitVec 2 := pal.extractLsb' (2 * i.toNat) 2

/-- The palette of a slot (R434). -/
def Ppu.palette (p : Ppu) (s : Pixel) : Byte := if s.sp then (if s.pal then p.obp1 else p.obp0) else p.bgp

/-- The framebuffer index of a line and column (R60). -/
def fbIndex (line col : Nat) : Nat := 160 * line + col

/-- `PopPixel()` (R434). -/
def Ppu.popPixel (p : Ppu) : Ppu :=
  match p.queue with
  | [] => p
  | s :: q =>
    if 0 < p.discard then { p with queue := q, discard := p.discard - 1 }
    else
      { p with
        queue := q
        fb := Cells.write p.fb (fbIndex p.ly.toNat p.col) (paletteEntry (p.palette s) s.color)
        col := p.col + 1
        mode := if p.col + 1 = 160 then .hblank else p.mode }

/-- `DrawDot()` (R428). -/
def Ppu.drawDot (p : Ppu) : Ppu := p.windowTest.spriteTest.fetcherStep.popPixel

/-! ## The dot (R424, R426, R436, R437) -/

/-- The mode changes of `PpuDot` at the start of a dot, with the work done on entry (R424, R425, R427, R436). -/
def Ppu.enterMode (p : Ppu) : Ppu :=
  if p.ly.toNat < 144 then
    if p.dot = 0 then { p with mode := .search }.oamSearch
    else if p.dot = 80 then { p with mode := .draw }.startDraw
    else p
  else if p.ly.toNat = 144 ∧ p.dot = 0 then { p with mode := .vblank }
  else p

/-- The drawing part of `PpuDot`: lines 0 to 143 in mode 3 (R424). -/
def Ppu.drawPhase (p : Ppu) : Ppu := if p.ly.toNat < 144 ∧ p.mode = .draw then p.drawDot else p

/-- Whether this dot requests the vblank interrupt (R436). -/
def Ppu.vblankRequest (p : Ppu) : Bool := decide (p.ly.toNat = 144) && decide (p.dot = 0)

/-- The coincidence flag recomputed (R437). -/
def Ppu.compare (p : Ppu) : Ppu := { p with coincidence := p.lyc == p.ly }

/-- `StatCondition()` (R437). -/
def Ppu.statCondition (p : Ppu) : Bool :=
  (p.statEn.getLsbD 3 && p.coincidence) || (p.statEn.getLsbD 2 && p.mode == .search) ||
    (p.statEn.getLsbD 1 && p.mode == .vblank) || (p.statEn.getLsbD 0 && p.mode == .hblank)

/-- The next line, past 153 back to 0 (R426). -/
def nextLine (ly : Byte) : Byte := if ly = 153#8 then 0#8 else ly + 1#8

/-- The end of `PpuDot`: the dot and line counters and the frame budget (R424, R426). -/
def Ppu.advance (p : Ppu) : Ppu :=
  if p.dot + 1 = 456 then
    { p with dot := 0, ph := 0, ly := nextLine p.ly, frameBudget := p.frameBudget - 1 }
  else { p with dot := p.dot + 1, frameBudget := p.frameBudget - 1 }

/-- The reload of the frame budget at the start of a dot (R424, R446). -/
def Ppu.reload (p : Ppu) : Ppu := if p.frameBudget = 0 then { p with frameBudget := 70224 } else p

/-- `PpuDot()` up to the interrupt requests: budget, mode, drawing, coincidence (R424). -/
def Ppu.dotWork (p : Ppu) : Ppu := p.reload.enterMode.drawPhase.compare

/-- Raise an interrupt request if asked. -/
def Bus.raiseIf (b : Bus) (on : Bool) (i : IrqSource) : Bus := if on then b.raise i else b

/-- `PpuDot()` (R424), with its requests to `IF` (R436, R437). -/
def ppuDot (s : State) : State :=
  let p := s.ppu.dotWork
  { s with
    ppu := p.advance
    bus := (s.bus.raiseIf s.ppu.vblankRequest .vblank).raiseIf p.statCondition .lcdStatus }

end Sys2Proof.Machine
end

