-- ==== Sys2Proof/Machine/Timer.lean ====
section
/-! DEFINITION. The divider and the timer (60_exceptions.md R410 to R415). -/

namespace Sys2Proof.Machine

/-- `TIMER_RATE[i]` (R413). -/
def timerRateOf (r : TimerRates) (i : BitVec 2) : Nat :=
  match i.toNat with
  | 0 => r.rate0
  | 1 => r.rate1
  | 2 => r.rate2
  | _ => r.rate3

/-- The divider (R411): one more in every tick that is a multiple of `DIV_PERIOD`. -/
def Bus.dividerTick (cfg : Config) (b : Bus) : Bus :=
  if b.tick % cfg.divPeriod = 0 then { b with div := b.div + 1#8 } else b

/-- `TimaIncrement()` (R414): on overflow reload from `TMA` and request the timer interrupt. -/
def Bus.timaIncrement (b : Bus) : Bus :=
  if b.tima = 0xFF#8 then { b with tima := b.tma }.raise .timer else { b with tima := b.tima + 1#8 }

/-- Whether the timer counts in this tick (R413). -/
def Bus.timerDue (cfg : Config) (b : Bus) : Bool :=
  b.tac.getLsbD 2 && decide (b.tick % timerRateOf cfg.timerRate (b.tac.extractLsb' 0 2) = 0)

/-- `TimerTick()`: R411, then R413 (R410). -/
def Bus.timerTick (cfg : Config) (b : Bus) : Bus :=
  let b1 := b.dividerTick cfg
  if b1.timerDue cfg then b1.timaIncrement else b1

/-- `TimerTick()` on the machine (R400). -/
def timerTick (s : State) : State := { s with bus := s.bus.timerTick s.cfg }

end Sys2Proof.Machine
end

