-- ==== Sys2Proof/Machine/Tick.lean ====
section
/-! DEFINITION. The CPU tick (60_exceptions.md R401), the parts of the bus step around it (R400), and the placing of
an instruction where the machine fetches its next one. -/

namespace Sys2Proof.Machine

/-! ## The CPU tick (R401) -/

/-- With `EI_DELAY = 1`, the delayed `EI` takes effect before the instruction after it executes (92 D7, log entry
4); with `EI_DELAY = 0` nothing is ever delayed. -/
def commitEi (s : State) : State :=
  if s.cpu.eiPending then { s with cpu.ime := true, cpu.eiPending := false } else s

/-- The instruction at the program counter: opcode byte and window decoded (R144, R145). -/
def nextInstr (s : State) : Instr :=
  decodeWindow (busRead s s.cpu.pc) (busRead s (fetchNext s)) (busRead s (fetchNext s + 1#16))

/-- `ExecuteOne()` (R144): fetch, decode, execute, all in one tick. -/
def executeOne (s : State) : Result := exec (nextInstr s) (fetched s (opLength (busRead s s.cpu.pc)))

/-- Whether an interrupt is entered at an instruction boundary (R363, R401). -/
def interruptDue (s : State) : Bool := s.cpu.ime && pend s != 0#5

/-- A CPU tick of a machine that is neither invalid nor halted (R401). -/
def cpuActive (s : State) : Result :=
  if 0 < s.cpu.wait then .next (s.setWait (s.cpu.wait - 1))
  else if interruptDue s then .next (interruptEntry s)
  else executeOne (commitEi s)

/-- `CpuTick()` (R401). -/
def cpuTick (s : State) : Result :=
  if s.bus.invalid then .next s
  else if s.cpu.halted then
    if pend s = 0#5 then .next s else cpuActive { s with cpu.halted := false }
  else cpuActive s

/-! ## The bus step (R400) -/

/-- The start of a step: the tick counter. -/
def countTick (s : State) : State := { s with bus.tick := s.bus.tick + 1 }

/-- The CPU's part of a step, unless stopped. -/
def cpuPhase (s : State) : Result := if s.cpu.stopped then .next s else cpuTick s

/-- The rest of a step after the CPU: the pixel processor, then the timer. -/
def finishTick (s : State) : State := timerTick (ppuDot s)

/-- Continue a step after the CPU's part. -/
def afterCpu : Result → Result
  | .next s => .next (finishTick s)
  | .fault r => .fault r
  | .refused r => .refused r

/-- `Step()` (R400): tick counter, CPU, pixel processor, timer. -/
def busStep (s : State) : Result := afterCpu (cpuPhase (countTick s))

/-! ## Placing an instruction -/

/-- Put a byte into the memory behind an address, the way a loader outside the machine does: ROM included, no
register. None where no memory shows at the address. -/
def poke (s : State) (a : Word) (v : Byte) : Option State :=
  let n := a.toNat
  if 0x8000 ≤ n ∧ n ≤ 0x9FFF then
    if s.ppu.vramVisible then some { s with ppu.vram := Cells.write s.ppu.vram (n - 0x8000) v } else none
  else if 0xFE00 ≤ n ∧ n ≤ 0xFE9F then
    if s.ppu.oamVisible then some { s with ppu.oam := Cells.write s.ppu.oam (n - 0xFE00) v } else none
  else if n ≤ 0x7FFF ∨ (0xA000 ≤ n ∧ n ≤ 0xBFFF) then
    match s.cart.mapRead n with
    | some (.rom, off) => some { s with cart.rom := Cells.write s.cart.rom off v }
    | some (.xram, off) => some { s with cart.xram := Cells.write s.cart.xram off v }
    | none => none
  else if 0xC000 ≤ n ∧ n ≤ 0xDFFF then some { s with bus.wram := Cells.write s.bus.wram (n - 0xC000) v }
  else if 0xE000 ≤ n ∧ n ≤ 0xFDFF then some { s with bus.wram := Cells.write s.bus.wram (n - 0xE000) v }
  else if 0xFF80 ≤ n ∧ n ≤ 0xFFFE then some { s with bus.hram := Cells.write s.bus.hram (n - 0xFF80) v }
  else none

/-- Put bytes at successive addresses. -/
def pokeAll (s : State) (a : Word) : List Byte → Option State
  | [] => some s
  | v :: vs =>
    match poke s a v with
    | some s' => pokeAll s' (a + 1#16) vs
    | none => none

/-- The same machine at an instruction boundary where the next CPU tick executes an instruction: not invalid,
stopped, halted or waiting, no halt quirk pending, and no interrupt deliverable (log entry 11). -/
def atBoundary (s : State) : State :=
  { s with
    bus.invalid := false
    cpu.stopped := false
    cpu.halted := false
    cpu.wait := 0
    cpu.haltBug := false
    cpu.ime := s.cpu.ime && pend s == 0#5 }

/-- An instruction's bytes put where the next step fetches: at `PC`, or, where no memory shows there, at the start
of work RAM with `PC` moved to it (log entry 11). -/
def placeBytes (s : State) (bytes : List Byte) : State :=
  let s1 := atBoundary s
  match pokeAll s1 s1.cpu.pc bytes with
  | some s2 => s2
  | none =>
    match pokeAll (s1.setPc 0xC000#16) 0xC000#16 bytes with
    | some s2 => s2
    | none => s1

end Sys2Proof.Machine
end

