-- ==== Sys2Proof/Machine/Step.lean ====
section
/-! DEFINITION. The step of the machine, one tick (60_exceptions.md R400), and the state with an instruction placed
where that step fetches. -/

namespace Sys2Proof.Machine

/-- One `Step()` of the machine (R400): the only way time advances. -/
def step (s : State) : Host.Outcome State Fault Refusal := busStep s

/-- `s` with the instruction whose table word is `w` stored where the next step fetches its instruction, and the CPU
at a boundary where that step executes it. -/
def State.withFetchWord (s : State) (nbits w : Nat) : State := placeBytes s (tableBytes nbits w)

end Sys2Proof.Machine
end

