-- ==== Sys2Proof/Machine/Driver.lean ====
section
/-! DEFINITION. The host's operations on the machine between steps (60_exceptions.md R421, R440 to R447). `PowerUp` is
`State.powerUp`, `Step` is `step`. -/

namespace Sys2Proof.Machine

/-! ## Buttons (R421) -/

/-- The eight buttons (R43). -/
inductive Button where
  | right | left | up | down | a | b | select | start
deriving DecidableEq, Repr

/-- The remembered level of a line (R43). -/
def Buttons.level (k : Buttons) : Button → Bool
  | .right => k.right
  | .left => k.left
  | .up => k.up
  | .down => k.down
  | .a => k.a
  | .b => k.b
  | .select => k.select
  | .start => k.start

/-- A line set to a level (R421). -/
def Buttons.setLevel (k : Buttons) (x : Button) (v : Bool) : Buttons :=
  match x with
  | .right => { k with right := v }
  | .left => { k with left := v }
  | .up => { k with up := v }
  | .down => { k with down := v }
  | .a => { k with a := v }
  | .b => { k with b := v }
  | .select => { k with select := v }
  | .start => { k with start := v }

/-- With `STOP_WAKE = on_button_press` a press clears the stopped state (R7, 92 D9, log entry 5). -/
def wakeStopped (s : State) : State :=
  match s.cfg.stopWake with
  | .never => s
  | .onButtonPress => { s with cpu.stopped := false }

/-- `SetButton(b, level)` (R421): a press of a released button requests the joypad interrupt. -/
def setButton (s : State) (x : Button) (pressed : Bool) : State :=
  let s1 :=
    if pressed && !s.bus.buttons.level x then wakeStopped { s with bus := s.bus.raise .joypad } else s
  { s1 with bus.buttons := s.bus.buttons.setLevel x pressed }

/-! ## RunInstruction and RunFrame (R444, R446) -/

/-- How a host operation ends, with the machine it leaves. -/
inductive RunResult where
  /-- it reports success -/
  | success (s : State)
  /-- it reports failure: the invalid flag is set (R361) -/
  | failure (s : State) (reason : Fault)
  /-- it has not returned within the steps it was given -/
  | running (s : State)
deriving DecidableEq, Repr

/-- Repeat `Step()` at most `n` times until the invalid flag is set (failure) or the end test holds (success). -/
def runLoop (atEnd : State → Bool) : Nat → State → RunResult
  | 0, s => .running s
  | n + 1, s =>
    match step s with
    | .next t =>
      if t.bus.invalid then .failure t .invalidOpcode
      else if atEnd t then .success t
      else runLoop atEnd n t
    | .fault r => .failure s r
    | .refused _ => .running s

/-- `RunInstruction()` (R444) with a bound on its steps, since it may not return. -/
def runInstruction (fuel : Nat) (s : State) : RunResult :=
  if s.bus.invalid then .failure s .invalidOpcode else runLoop (fun t => t.cpu.wait == 0) fuel s

/-- The steps `RunFrame()` makes at most: the frame budget, reloaded if it is 0 (R446, R424). -/
def frameSteps (s : State) : Nat := if s.ppu.frameBudget = 0 then 70224 else s.ppu.frameBudget

/-- `RunFrame()` (R446); it always returns. -/
def runFrame (s : State) : RunResult :=
  if s.bus.invalid then .failure s .invalidOpcode
  else runLoop (fun t => t.ppu.frameBudget == 0) (frameSteps s) s

/-! ## Observations (R445) -/

/-- The framebuffer cell of a line and column (R60, R445). -/
def framePixel (s : State) (line col : Nat) : BitVec 2 := Cells.read s.ppu.fb (fbIndex line col)

/-- The invalid flag as the host reads it (R36, R445). -/
def observeInvalid (s : State) : Bool := s.bus.invalid

end Sys2Proof.Machine
end

