-- ==== Sys2Proof/Safety.lean ====
section
/-! DEFINITION. The terms in which claims about the machine are stated: the invariant of its states, the frames of
instructions, what a store and a push may change, and the numbers of the decode tables. -/

namespace Sys2Proof.Machine

/-! ## The invariant -/

/-- The CPU's part: the low nibble of `F` is zero (10_state.md R22), `wait` is at most 23 (R33), `halt_bug` implies
`IME = 0` (47_system.md R341 e), an `EI` is delayed only under `EI_DELAY = 1`, and an invalid machine owes no
ticks (R343). -/
structure CpuInv (s : State) : Prop where
  flagsLow : s.cpu.f &&& 0x0F#8 = 0#8
  waitBound : s.cpu.wait ≤ 23
  haltBugMasked : s.cpu.haltBug = true → s.cpu.ime = false
  eiDelayed : s.cpu.eiPending = true → s.cfg.eiDelay = .one
  invalidIdle : s.bus.invalid = true → s.cpu.wait = 0

/-- A memory is in canonical form and lists nothing beyond its size (10_state.md R60, R62). -/
abbrev Cells.ok {w : Nat} (m : Cells w) (size : Nat) : Prop := Cells.wf m ∧ Cells.below m size

/-- Every memory is in canonical form and within its size (R60, R62). -/
structure MemoryInv (s : State) : Prop where
  vram : Cells.ok s.ppu.vram 0x2000
  oam : Cells.ok s.ppu.oam 160
  fb : Cells.ok s.ppu.fb (160 * 144)
  wram : Cells.ok s.bus.wram 0x2000
  hram : Cells.ok s.bus.hram 127
  rom : Cells.ok s.cart.rom (s.cart.romBanks * 0x4000)
  xram : Cells.ok s.cart.xram (s.cart.ramBanks * 0x2000)

/-- The pixel processor's counters are in the ranges of 10_state.md R52, R57, R58, R59. -/
structure ScanInv (p : Ppu) : Prop where
  line : p.ly.toNat ≤ 153
  dot : p.dot < 456
  budget : p.frameBudget ≤ 70224
  column : p.col ≤ 160
  drawing : p.mode = .draw → p.col < 160
  discard : p.discard ≤ 7
  sprites : p.lineSprites.length ≤ 10
  spriteIndex : ∀ i ∈ p.lineSprites, i < 40
  phase : p.ph ≤ 8
  row : p.frow ≤ 7
  queue : p.queue.length ≤ 8

/-- The cartridge: at least two ROM banks (00_scope.md R7), and `bank5` is never 0 (10_state.md R64). -/
structure CartInv (c : Cart) : Prop where
  banks : 2 ≤ c.romBanks
  bank5 : ∀ r, c.ctrl = .banked r → r.bank5 ≠ 0#5

/-- The invariant of the machine's states. -/
structure State.Inv (s : State) : Prop where
  cpu : CpuInv s
  memory : MemoryInv s
  scan : ScanInv s.ppu
  cart : CartInv s.cart

/-- The mode goes with the place in the frame (60_exceptions.md R424 to R436): on a visible line mode 2 is left by the
dots 0 to 79 and modes 3 or 0 by the others, and mode 1 holds from the first dot of line 144 on. `dot` is the
index of the next dot. -/
structure ModeInv (p : Ppu) : Prop where
  search : p.ly.toNat < 144 → 1 ≤ p.dot → p.dot ≤ 80 → p.mode = .search
  drawOrBlank : p.ly.toNat < 144 → 81 ≤ p.dot → p.mode = .draw ∨ p.mode = .hblank
  vblank : 144 ≤ p.ly.toNat → (p.ly.toNat = 144 → 1 ≤ p.dot) → p.mode = .vblank

/-- The pixels still to be popped on this line: those of the columns left, and the discarded ones (60_exceptions.md
R427, R434). -/
def Ppu.popsLeft (p : Ppu) : Nat := 160 - p.col + p.discard

/-- The dots until the last of those pops: one for each pop, one for each refill of the queue (a row takes nine
dots, R432), and the rest of the fetch in progress where the queue is empty. -/
def Ppu.dotsLeft (p : Ppu) : Nat :=
  p.popsLeft + (p.popsLeft - p.queue.length + 7) / 8 + (if p.queue = [] then 7 - p.ph else 0) -
    (if p.queue = [] ∧ p.ph = 8 then 1 else 0)

/-- While a visible line is being drawn, the fetcher runs in step with the queue and the drawing ends by the dot with
index 283, whenever the window triggers (R432, R434, R435): nine dots are kept for a trigger still to come. -/
structure DrawInv (p : Ppu) : Prop where
  inStep : p.ly.toNat < 144 → p.mode = .draw → 81 ≤ p.dot → p.queue ≠ [] → p.queue.length + p.ph = 7
  inTime : p.ly.toNat < 144 → p.mode = .draw → 81 ≤ p.dot →
    p.dot + p.dotsLeft + (if p.winActive then 0 else 9) ≤ 284

/-- The values of `RESET` that a machine can have: each in the range 10_state.md gives it (R22, R33, R52, R57 to R59, R64),
with the scan at the start of a visible line, as the table of R460 has it, and no `EI` delayed. -/
structure ResetRecord.Legal (r : ResetRecord) : Prop where
  flagsLow : r.cpu.f &&& 0x0F#8 = 0#8
  waitBound : r.cpu.wait ≤ 23
  haltBugMasked : r.cpu.haltBug = true → r.cpu.ime = false
  noDelayedEi : r.cpu.eiPending = false
  invalidIdle : r.bus.invalid = true → r.cpu.wait = 0
  line : r.ppu.ly.toNat < 144
  dot : r.ppu.dot = 0
  budget : r.ppu.frameBudget ≤ 70224
  column : r.ppu.col ≤ 160
  drawing : r.ppu.mode = .draw → r.ppu.col < 160
  discard : r.ppu.discard ≤ 7
  sprites : r.ppu.lineSprites.length ≤ 10
  spriteIndex : ∀ i ∈ r.ppu.lineSprites, i < 40
  phase : r.ppu.ph ≤ 8
  row : r.ppu.frow ≤ 7
  queue : r.ppu.queue.length ≤ 8
  bank5 : r.bank.bank5 ≠ 0#5

/-- A safe state: no undefined opcode has been executed (60_exceptions.md R361). -/
def State.Safe (s : State) : Prop := s.bus.invalid = false

/-! ## Frames -/

/-- Every 8-bit register but the named ones is unchanged. -/
def KeptRegs (s t : State) (except : List Reg) : Prop := ∀ r, r ∉ except → t.reg r = s.reg r

/-- The halted and stopped states, the halt quirk and a delayed `EI` are unchanged. -/
def KeptPower (s t : State) : Prop :=
  t.cpu.halted = s.cpu.halted ∧ t.cpu.stopped = s.cpu.stopped ∧ t.cpu.haltBug = s.cpu.haltBug ∧
    t.cpu.eiPending = s.cpu.eiPending

/-- The CPU's control bits are unchanged: `IME` and those of `KeptPower`. -/
def KeptControl (s t : State) : Prop := t.cpu.ime = s.cpu.ime ∧ KeptPower s t

/-- Everything in the CPU but the named 8-bit registers, `F` and the ticks owed is unchanged. -/
def CpuFrame (s t : State) (except : List Reg) : Prop :=
  KeptRegs s t except ∧ t.cpu.sp = s.cpu.sp ∧ t.cpu.pc = s.cpu.pc ∧ KeptControl s t

/-- Everything in the CPU but `PC`, `SP` and the ticks owed is unchanged. -/
def JumpFrame (s t : State) : Prop := KeptRegs s t [] ∧ t.cpu.f = s.cpu.f ∧ KeptControl s t

/-- Everything outside the CPU is unchanged, and every byte reads as before. -/
def KeptOutside (s t : State) : Prop :=
  t.bus = s.bus ∧ t.ppu = s.ppu ∧ t.cart = s.cart ∧ t.cfg = s.cfg ∧ ∀ a, busRead t a = busRead s a

/-- The instruction occupies `cost` ticks: all but its first are still owed (60_exceptions.md R401). -/
def Costs (t : State) (cost : Nat) : Prop := t.cpu.wait + 1 = cost

/-- Interrupt source `n` is enabled and pending (60_exceptions.md R363). -/
def Pending (s : State) (n : Nat) : Prop := n < 5 ∧ s.bus.ie.getLsbD n = true ∧ s.bus.iflag.getLsbD n = true

/-- The next CPU tick executes an instruction (60_exceptions.md R401): nothing is owed, the machine is neither
invalid, stopped nor halted, and no interrupt is deliverable. -/
structure AtFetch (s : State) : Prop where
  valid : s.bus.invalid = false
  running : s.cpu.stopped = false
  awake : s.cpu.halted = false
  idle : s.cpu.wait = 0
  masked : s.cpu.ime = true → ∀ n, ¬ Pending s n

/-! ## Stores -/

/-- The two addresses are the two views of one work-RAM byte (20_memory.md R78). -/
def EchoOf (a b : Word) : Prop :=
  (0xC000 ≤ a.toNat ∧ a.toNat ≤ 0xDDFF ∧ b.toNat = a.toNat + 0x2000) ∨
    (0xC000 ≤ b.toNat ∧ b.toNat ≤ 0xDDFF ∧ a.toNat = b.toNat + 0x2000)

/-- Reading `b` may change by a store at `a`: the byte itself or its echo (R78), the banked windows after a latch
write (R113 to R119), video memory after a write to `LCDC` (R74, R75), the sprite table after a write to the
DMA register (60_exceptions.md R438). -/
def StoreMayChange (a b : Word) : Prop :=
  b = a ∨ EchoOf a b ∨
    (a.toNat ≤ 0x7FFF ∧ ((0x4000 ≤ b.toNat ∧ b.toNat ≤ 0x7FFF) ∨ (0xA000 ≤ b.toNat ∧ b.toNat ≤ 0xBFFF))) ∨
    (a = 0xFF40#16 ∧ ((0x8000 ≤ b.toNat ∧ b.toNat ≤ 0x9FFF) ∨ (0xFE00 ≤ b.toNat ∧ b.toNat ≤ 0xFE9F))) ∨
    (a = 0xFF46#16 ∧ 0xFE00 ≤ b.toNat ∧ b.toNat ≤ 0xFE9F)

/-- The address shows a byte of RAM that a store changes and a load reads back: visible video RAM or sprite table,
work RAM or its echo, high RAM, mapped external RAM (R72 to R79, R111, R119). -/
def PlainRam (s : State) (a : Word) : Prop :=
  (0x8000 ≤ a.toNat ∧ a.toNat ≤ 0x9FFF ∧ s.ppu.vramVisible = true) ∨
    (0xFE00 ≤ a.toNat ∧ a.toNat ≤ 0xFE9F ∧ s.ppu.oamVisible = true) ∨
    (0xC000 ≤ a.toNat ∧ a.toNat ≤ 0xFDFF) ∨
    (0xFF80 ≤ a.toNat ∧ a.toNat ≤ 0xFFFE) ∨
    (0xA000 ≤ a.toNat ∧ a.toNat ≤ 0xBFFF ∧ (s.cart.xramMap a.toNat).isSome = true)

/-- Outside the CPU, `t` is `s` with the byte `v` stored at `a` through the bus; every byte the store cannot change
reads as before, and where `a` shows plain RAM it reads `v`. -/
def StoredByte (s t : State) (a : Word) (v : Byte) : Prop :=
  t.bus = (busWrite s a v).bus ∧ t.ppu = (busWrite s a v).ppu ∧ t.cart = (busWrite s a v).cart ∧ t.cfg = s.cfg ∧
    (∀ b, ¬ StoreMayChange a b → busRead t b = busRead s b) ∧ (PlainRam s a → busRead t a = v)

/-- Outside the CPU, `t` is `s` with `v1` stored at `a1`, then `v2` at `a2`; every byte neither store can change reads
as before. -/
def StoredTwo (s t : State) (a1 : Word) (v1 : Byte) (a2 : Word) (v2 : Byte) : Prop :=
  t.bus = (busWrite (busWrite s a1 v1) a2 v2).bus ∧ t.ppu = (busWrite (busWrite s a1 v1) a2 v2).ppu ∧
    t.cart = (busWrite (busWrite s a1 v1) a2 v2).cart ∧ t.cfg = s.cfg ∧
    ∀ b, ¬ StoreMayChange a1 b → ¬ StoreMayChange a2 b → busRead t b = busRead s b

/-- `t` is `s` with `v` pushed: `SP` two lower, high byte at `SP-1`, then low byte at `SP-2` (40_control_flow.md R194). -/
def Pushed (s t : State) (v : Word) : Prop :=
  t.cpu.sp = s.cpu.sp - 2#16 ∧
    StoredTwo s t (s.cpu.sp - 1#16) (v.extractLsb' 8 8) (s.cpu.sp - 2#16) (v.extractLsb' 0 8)

/-! ## Operands -/

/-- `sext_16(e)` as 00_scope.md R10 writes it. -/
def signed16 (e : Byte) : Word := if e.toNat < 0x80 then e.zeroExtend 16 else e.zeroExtend 16 + 0xFF00#16

/-- The two 8-bit registers of a pair (10_state.md R21); `SP` has none. -/
def pairRegs : Pair → List Reg
  | .bc => [.b, .c]
  | .de => [.d, .e]
  | .hl => [.h, .l]
  | .sp => []

/-- The two 8-bit registers of a stack pair, `F` aside (R21). -/
def stackPairRegs : StackPair → List Reg
  | .bc => [.b, .c]
  | .de => [.d, .e]
  | .hl => [.h, .l]
  | .af => [.a]

/-- What a rotate, shift or swap makes of `v` and the old carry: the result and the new carry, by shifts
(46_cb_extended.md R316 to R323). -/
def shifted (op : RotOp) (v : Byte) (c : Bool) : Byte × Bool :=
  let top := decide (0x80 ≤ v.toNat)
  let bottom := decide (v.toNat % 2 = 1)
  match op with
  | .rlc => (v <<< 1 ||| v >>> 7, top)
  | .rrc => (v >>> 1 ||| v <<< 7, bottom)
  | .rl => (v <<< 1 ||| (if c then 0x01#8 else 0#8), top)
  | .rr => (v >>> 1 ||| (if c then 0x80#8 else 0#8), bottom)
  | .sla => (v <<< 1, top)
  | .sra => (v >>> 1 ||| (v &&& 0x80#8), bottom)
  | .swap => (v <<< 4 ||| v >>> 4, false)
  | .srl => (v >>> 1, bottom)

/-! ## Conditions and table numbers -/

/-- A condition code on a flag byte (40_control_flow.md R180). -/
def CondHolds (f : Byte) : Cond → Prop
  | .nz => f.getLsbD 7 = false
  | .z => f.getLsbD 7 = true
  | .nc => f.getLsbD 4 = false
  | .c => f.getLsbD 4 = true

/-- The number of a slot in `R8` (30_encoding.md R143). -/
def slotNumber : Slot → Nat
  | .reg .b => 0
  | .reg .c => 1
  | .reg .d => 2
  | .reg .e => 3
  | .reg .h => 4
  | .reg .l => 5
  | .hlInd => 6
  | .reg .a => 7

/-- The number of a pair in `RP` (R143). -/
def pairNumber : Pair → Nat
  | .bc => 0
  | .de => 1
  | .hl => 2
  | .sp => 3

/-- The number of a pair in `RP2` (R143). -/
def stackPairNumber : StackPair → Nat
  | .bc => 0
  | .de => 1
  | .hl => 2
  | .af => 3

/-- The number of a condition in `CC` (R143). -/
def condNumber : Cond → Nat
  | .nz => 0
  | .z => 1
  | .nc => 2
  | .c => 3

/-- The number of an operation in `ALU` (R143). -/
def aluNumber : AluOp → Nat
  | .add => 0
  | .adc => 1
  | .sub => 2
  | .sbc => 3
  | .and => 4
  | .xor => 5
  | .or => 6
  | .cp => 7

/-- The number of an operation in `ROT` (R143). -/
def rotNumber : RotOp → Nat
  | .rlc => 0
  | .rrc => 1
  | .rl => 2
  | .rr => 3
  | .sla => 4
  | .sra => 5
  | .swap => 6
  | .srl => 7

/-- The three forms of an ALU instruction with operand `v` (44_alu.md R280): instruction, operand, ticks, bytes. -/
def aluForms (op : AluOp) (s : State) (r : Reg) (n : Byte) : List (Instr × Byte × Nat × List Byte) :=
  [(Instr.alu op (.reg r), s.reg r, 4, [BitVec.ofNat 8 (0x80 + 8 * aluNumber op + slotNumber (.reg r))]),
    (Instr.alu op .hlInd, busRead s s.hl, 8, [BitVec.ofNat 8 (0x86 + 8 * aluNumber op)]),
    (Instr.aluImm op n, n, 8, [BitVec.ofNat 8 (0xC6 + 8 * aluNumber op), n])]

/-- A flag byte with the four flags given as bits 7, 6, 5, 4 and zero below (10_state.md R22). -/
def FlagsAre (f : Byte) (z n h c : Bool) : Prop :=
  f.getLsbD 7 = z ∧ f.getLsbD 6 = n ∧ f.getLsbD 5 = h ∧ f.getLsbD 4 = c ∧ f.extractLsb' 0 4 = 0#4

end Sys2Proof.Machine
end

