-- ==== Sys2Proof/WellFormed.lean ====
section
/-! DEFINITION. Well-formed instructions. Operand widths are in the types (every 8-bit and 16-bit operand value
is encodable, 30_encoding.md R148), so one check remains: the prefix byte alone is no complete instruction. -/

namespace Sys2Proof

/-- `PREFIX_CB` without its second byte is not an instruction: "The prefix and its second byte are one
instruction" (46_cb_extended.md R315). Every other constructor is complete as it stands. -/
def Instr.wellFormed (i : Instr) : Bool :=
  match i with
  | .prefixCb => false
  | _ => true

end Sys2Proof
end

