-- ==== Sys2Proof/Certificates/Slice0/Obligations.lean ====
section
/-! DEFINITION. The statements for the provers, from the numbered rules of spec/: encoding, what each instruction does and
leaves alone, exceptions, the bus and the cartridge, the timer, the pixel processor, reset, the host's operations
and the invariants that every step keeps. -/

open Sys2Proof Sys2Proof.Machine

/-! ## Encoding (30_encoding.md) -/

/-- A sample of words written out bit by bit from the formats of 30_encoding.md R141 and the maps of R149 to R153 decode to the
instructions they stand for. -/
def Obligations.DecodesWordsOfTheSpec : Prop :=
  decode [0b00_01_0001#8, 0x34#8, 0x12#8] = .ok (.ldDeN16 0x1234#16, []) ∧
  decode [0b00_100_000#8, 0xFA#8] = .ok (.jrNzE8 0xFA#8, []) ∧
  decode [0b00_110_010#8] = .ok (.ldIndHlDecA, []) ∧
  decode [0b01_111_000#8] = .ok (.ldAB, []) ∧
  decode [0b01_110_110#8] = .ok (.halt, []) ∧
  decode [0b10_011_110#8] = .ok (.sbcAIndHl, []) ∧
  decode [0b11_001_101#8, 0x00#8, 0x02#8] = .ok (.callN16 0x0200#16, []) ∧
  decode [0b11_11_0001#8, 0x77#8] = .ok (.popAf, [0x77#8]) ∧
  decode [0b11_101_111#8] = .ok (.rst28, []) ∧
  decode [0b11_001_011#8, 0b01_100_101#8] = .ok (.bit4L, []) ∧
  decode [0b11_001_011#8, 0b00_110_111#8] = .ok (.swapA, []) ∧
  decode [0b11_011_101#8] = .ok (.illegalDD, []) ∧
  decode [0b11_101_010#8, 0x00#8] = .error .truncated

/-- Decoding an encoded well-formed instruction gives it back, with every operand at every value, and leaves the
bytes after it. -/
def Obligations.DecodeOfEncode : Prop :=
  ∀ (i : Instr) (rest : List Byte), i.wellFormed = true → decode (encode i ++ rest) = .ok (i, rest)

/-- Each byte string has one meaning: what decodes to an instruction is that instruction's encoding, followed by the
bytes the decoder leaves. -/
def Obligations.EncodeOfDecode : Prop :=
  ∀ (bytes : List Byte) (i : Instr) (rest : List Byte), decode bytes = .ok (i, rest) → encode i ++ rest = bytes

/-- The length is told from the first byte alone, by the cases of R154, whatever bytes follow. -/
def Obligations.FirstByteTellsLength : Prop :=
  ∀ (op b1 b2 : Byte) (rest : List Byte),
    let x := (op.extractLsb' 6 2).toNat
    let y := (op.extractLsb' 3 3).toNat
    let z := (op.extractLsb' 0 3).toNat
    let q := op.getLsbD 3
    let three := (x = 0 ∧ z = 1 ∧ q = false) ∨ op = 0x08#8 ∨ op = 0xC3#8 ∨ (x = 3 ∧ z = 2 ∧ y < 4) ∨ op = 0xCD#8 ∨
      (x = 3 ∧ z = 4 ∧ y < 4) ∨ op = 0xEA#8 ∨ op = 0xFA#8
    let two := (x = 0 ∧ z = 0 ∧ 3 ≤ y) ∨ (x = 0 ∧ z = 6) ∨ (x = 3 ∧ z = 6) ∨ op = 0xE0#8 ∨ op = 0xF0#8 ∨
      op = 0xE8#8 ∨ op = 0xF8#8 ∨ op = 0xCB#8
    ∃ i : Instr,
      (three → decode (op :: b1 :: b2 :: rest) = .ok (i, rest) ∧ (encode i).length = 3) ∧
      (two → decode (op :: b1 :: b2 :: rest) = .ok (i, b2 :: rest) ∧ (encode i).length = 2) ∧
      (¬ three → ¬ two → decode (op :: b1 :: b2 :: rest) = .ok (i, b1 :: b2 :: rest) ∧ (encode i).length = 1)

/-- A step runs the instruction decoded at the program counter: the tick is counted, `PC` moves past the instruction's
bytes, the instruction executes, then the pixel processor and the timer run (30_encoding.md R144 to R147,
60_exceptions.md R400, R401). -/
def Obligations.StepRunsDecodedInstruction : Prop :=
  ∀ (s : State) (i : Instr) (rest : List Byte),
    AtFetch s → s.cpu.haltBug = false → s.cpu.eiPending = false →
    decode [busRead s s.cpu.pc, busRead s (s.cpu.pc + 1#16), busRead s (s.cpu.pc + 2#16)] = .ok (i, rest) →
    step s = afterCpu (exec i
      { s with cpu.pc := s.cpu.pc + BitVec.ofNat 16 (encode i).length, bus.tick := s.bus.tick + 1 })

/-- While the halt quirk is pending the opcode fetch does not advance `PC`: the opcode byte is also the first byte
after the opcode, and `PC` ends one short; the quirk is consumed (30_encoding.md R145, R146, 47_system.md R341). -/
def Obligations.HaltQuirkRereadsByte : Prop :=
  ∀ (s : State) (i : Instr) (rest : List Byte),
    AtFetch s → s.cpu.haltBug = true → s.cpu.eiPending = false →
    decode [busRead s s.cpu.pc, busRead s s.cpu.pc, busRead s (s.cpu.pc + 1#16)] = .ok (i, rest) →
    step s = afterCpu (exec i
      { s with
        cpu.pc := s.cpu.pc + BitVec.ofNat 16 ((encode i).length - 1)
        cpu.haltBug := false
        bus.tick := s.bus.tick + 1 })

/-! ## Control flow (40_control_flow.md) -/

/-- `JR e8` and `JR cc,e8` (R181, R182). Constructors `jrE8`, `jrNzE8`, `jrZE8`, `jrNcE8`, `jrCE8`. `PC` is the address
after the operand when the instruction executes. -/
def Obligations.RelativeJumps : Prop :=
  (∀ (s : State) (e : Byte), ∃ t, exec (.jrE8 e) s = .next t ∧ t.cpu.pc = s.cpu.pc + signed16 e ∧
    t.cpu.sp = s.cpu.sp ∧ JumpFrame s t ∧ KeptOutside s t ∧ Costs t 12 ∧ encode (.jrE8 e) = [0x18#8, e]) ∧
  (∀ (s : State) (cc : Cond) (e : Byte), ∃ t, exec (Instr.jrCond cc e) s = .next t ∧
    (CondHolds s.cpu.f cc → t.cpu.pc = s.cpu.pc + signed16 e ∧ Costs t 12) ∧
    (¬ CondHolds s.cpu.f cc → t.cpu.pc = s.cpu.pc ∧ Costs t 8) ∧
    t.cpu.sp = s.cpu.sp ∧ JumpFrame s t ∧ KeptOutside s t ∧
    encode (Instr.jrCond cc e) = [BitVec.ofNat 8 (0x20 + 8 * condNumber cc), e])

/-- `JP n16`, `JP cc,n16`, `JP HL` (R183 to R185). Constructors `jpN16`, `jpNzN16`, `jpZN16`, `jpNcN16`, `jpCN16`,
`jpHl`. -/
def Obligations.AbsoluteJumps : Prop :=
  (∀ (s : State) (nn : Word), ∃ t, exec (.jpN16 nn) s = .next t ∧ t.cpu.pc = nn ∧
    t.cpu.sp = s.cpu.sp ∧ JumpFrame s t ∧ KeptOutside s t ∧ Costs t 16 ∧
    encode (.jpN16 nn) = [0xC3#8, nn.extractLsb' 0 8, nn.extractLsb' 8 8]) ∧
  (∀ (s : State) (cc : Cond) (nn : Word), ∃ t, exec (Instr.jpCond cc nn) s = .next t ∧
    (CondHolds s.cpu.f cc → t.cpu.pc = nn ∧ Costs t 16) ∧
    (¬ CondHolds s.cpu.f cc → t.cpu.pc = s.cpu.pc ∧ Costs t 12) ∧
    t.cpu.sp = s.cpu.sp ∧ JumpFrame s t ∧ KeptOutside s t ∧
    encode (Instr.jpCond cc nn) =
      [BitVec.ofNat 8 (0xC2 + 8 * condNumber cc), nn.extractLsb' 0 8, nn.extractLsb' 8 8]) ∧
  (∀ s : State, ∃ t, exec .jpHl s = .next t ∧ t.cpu.pc = s.cpu.h ++ s.cpu.l ∧
    t.cpu.sp = s.cpu.sp ∧ JumpFrame s t ∧ KeptOutside s t ∧ Costs t 4 ∧ encode .jpHl = [0xE9#8])

/-- `CALL n16`, `CALL cc,n16`, `RST t` (R186, R187, R191) push `PC`, the address after the instruction, and jump.
Constructors `callN16`, `callNzN16`, `callZN16`, `callNcN16`, `callCN16`, `rst00` to `rst38`. The premise is the
invariant of `StepKeepsInvariant`; it is needed for the bytes not stored to. -/
def Obligations.CallsAndRestarts : Prop :=
  ∀ s : State, MemoryInv s →
  (∀ nn : Word, ∃ t, exec (.callN16 nn) s = .next t ∧ Pushed s t s.cpu.pc ∧ t.cpu.pc = nn ∧ JumpFrame s t ∧
    Costs t 24 ∧ encode (.callN16 nn) = [0xCD#8, nn.extractLsb' 0 8, nn.extractLsb' 8 8]) ∧
  (∀ (cc : Cond) (nn : Word), ∃ t, exec (Instr.callCond cc nn) s = .next t ∧ JumpFrame s t ∧
    (CondHolds s.cpu.f cc → Pushed s t s.cpu.pc ∧ t.cpu.pc = nn ∧ Costs t 24) ∧
    (¬ CondHolds s.cpu.f cc → t.cpu.sp = s.cpu.sp ∧ t.cpu.pc = s.cpu.pc ∧ KeptOutside s t ∧ Costs t 12) ∧
    encode (Instr.callCond cc nn) =
      [BitVec.ofNat 8 (0xC4 + 8 * condNumber cc), nn.extractLsb' 0 8, nn.extractLsb' 8 8]) ∧
  (∀ y : Fin 8, ∃ t, exec (Instr.rst y.val) s = .next t ∧ Pushed s t s.cpu.pc ∧
    t.cpu.pc = BitVec.ofNat 16 (y.val * 8) ∧ JumpFrame s t ∧ Costs t 16 ∧
    encode (Instr.rst y.val) = [BitVec.ofNat 8 (0xC7 + 8 * y.val)])

/-- `RET`, `RET cc`, `RETI` (R188 to R190) pop `PC` from `SP` and `SP + 1`; `RETI` sets `IME`. Constructors `ret`,
`retNz`, `retZ`, `retNc`, `retC`, `reti`. -/
def Obligations.Returns : Prop :=
  ∀ s : State,
  (∃ t, exec .ret s = .next t ∧ t.cpu.pc = busRead s (s.cpu.sp + 1#16) ++ busRead s s.cpu.sp ∧
    t.cpu.sp = s.cpu.sp + 2#16 ∧ JumpFrame s t ∧ KeptOutside s t ∧ Costs t 16 ∧ encode .ret = [0xC9#8]) ∧
  (∀ cc : Cond, ∃ t, exec (Instr.retCond cc) s = .next t ∧ JumpFrame s t ∧ KeptOutside s t ∧
    (CondHolds s.cpu.f cc → t.cpu.pc = busRead s (s.cpu.sp + 1#16) ++ busRead s s.cpu.sp ∧
      t.cpu.sp = s.cpu.sp + 2#16 ∧ Costs t 20) ∧
    (¬ CondHolds s.cpu.f cc → t.cpu.pc = s.cpu.pc ∧ t.cpu.sp = s.cpu.sp ∧ Costs t 8) ∧
    encode (Instr.retCond cc) = [BitVec.ofNat 8 (0xC0 + 8 * condNumber cc)]) ∧
  (∃ t, exec .reti s = .next t ∧ t.cpu.pc = busRead s (s.cpu.sp + 1#16) ++ busRead s s.cpu.sp ∧
    t.cpu.sp = s.cpu.sp + 2#16 ∧ t.cpu.ime = true ∧ KeptRegs s t [] ∧ t.cpu.f = s.cpu.f ∧ KeptPower s t ∧
    KeptOutside s t ∧ Costs t 16 ∧ encode .reti = [0xD9#8])

/-- `DI` and `EI` write the master enable at once (R192, R193, with `EI_DELAY = 0`) and nothing else. Constructors `di`,
`ei`. -/
def Obligations.InterruptEnable : Prop :=
  (∀ s : State, ∃ t, exec .di s = .next t ∧ t.cpu.ime = false ∧ KeptPower s t ∧ KeptRegs s t [] ∧
    t.cpu.f = s.cpu.f ∧ t.cpu.sp = s.cpu.sp ∧ t.cpu.pc = s.cpu.pc ∧ KeptOutside s t ∧ Costs t 4 ∧
    encode .di = [0xF3#8]) ∧
  (∀ s : State, s.cfg.eiDelay = .zero → ∃ t, exec .ei s = .next t ∧ t.cpu.ime = true ∧ KeptPower s t ∧
    KeptRegs s t [] ∧ t.cpu.f = s.cpu.f ∧ t.cpu.sp = s.cpu.sp ∧ t.cpu.pc = s.cpu.pc ∧ KeptOutside s t ∧
    Costs t 4 ∧ encode .ei = [0xFB#8])

/-- The other values of the parameters `EI_DELAY`, `SP_ADD_FLAGS` and `STOP_WAKE` (00_scope.md R7; 92 D7, D9, D13).
What each does in detail is the model's choice: log entries 4, 5 and 6. With `EI_DELAY = 1`, `EI` leaves `IME`
alone and the master enable is 1 when the instruction after it executes, unless an interrupt is entered first;
with `bit11_15` the flags of `ADD SP,e8` and `LD HL,SP+e8` are the carries of the 16-bit sum; with
`on_button_press` a press clears the stopped state. -/
def Obligations.OtherParameterValues : Prop :=
  (∀ s : State, s.cfg.eiDelay = .one → ∃ t, exec .ei s = .next t ∧ t.cpu.ime = s.cpu.ime ∧
    t.cpu.eiPending = true ∧ KeptRegs s t [] ∧ t.cpu.f = s.cpu.f ∧ t.cpu.sp = s.cpu.sp ∧ t.cpu.pc = s.cpu.pc ∧
    t.cpu.halted = s.cpu.halted ∧ t.cpu.stopped = s.cpu.stopped ∧ t.cpu.haltBug = s.cpu.haltBug ∧
    KeptOutside s t ∧ Costs t 4) ∧
  (∀ (s : State) (i : Instr) (rest : List Byte),
    AtFetch s → s.cpu.haltBug = false → s.cpu.eiPending = true →
    decode [busRead s s.cpu.pc, busRead s (s.cpu.pc + 1#16), busRead s (s.cpu.pc + 2#16)] = .ok (i, rest) →
    step s = afterCpu (exec i
      { s with
        cpu.ime := true
        cpu.eiPending := false
        cpu.pc := s.cpu.pc + BitVec.ofNat 16 (encode i).length
        bus.tick := s.bus.tick + 1 })) ∧
  (∀ (s : State) (e : Byte) (i : Instr), s.cfg.spAddFlags = .bit11_15 → i = .addSpE8 e ∨ i = .ldHlSpE8 e →
    ∃ t, exec i s = .next t ∧
      FlagsAre t.cpu.f false false
        (decide (0x0FFF < (s.cpu.sp.extractLsb' 0 12).toNat + ((signed16 e).extractLsb' 0 12).toNat))
        (decide (0xFFFF < s.cpu.sp.toNat + (signed16 e).toNat))) ∧
  (∀ (s : State) (x : Button), s.cfg.stopWake = .onButtonPress → s.bus.buttons.level x = false →
    (setButton s x true).cpu = { s.cpu with stopped := false })

/-! ## 8-bit loads (41_load8.md) -/

/-- `LD r,r'` and `LD r,n8` (R210, R213): the 49 constructors `ldBB` to `ldAA` between registers, and `ldBN8`, `ldCN8`,
`ldDN8`, `ldEN8`, `ldHN8`, `ldLN8`, `ldAN8`. -/
def Obligations.RegisterLoads : Prop :=
  (∀ (s : State) (rd r : Reg), ∃ t, exec (Instr.ld (.reg rd) (.reg r)) s = .next t ∧ t.reg rd = s.reg r ∧
    t.cpu.f = s.cpu.f ∧ CpuFrame s t [rd] ∧ KeptOutside s t ∧ Costs t 4 ∧
    encode (Instr.ld (.reg rd) (.reg r)) =
      [BitVec.ofNat 8 (0x40 + 8 * slotNumber (.reg rd) + slotNumber (.reg r))]) ∧
  (∀ (s : State) (rd : Reg) (n : Byte), ∃ t, exec (Instr.ldImm (.reg rd) n) s = .next t ∧ t.reg rd = n ∧
    t.cpu.f = s.cpu.f ∧ CpuFrame s t [rd] ∧ KeptOutside s t ∧ Costs t 8 ∧
    encode (Instr.ldImm (.reg rd) n) = [BitVec.ofNat 8 (0x06 + 8 * slotNumber (.reg rd)), n])

/-- `LD r,(HL)`, `LD A,(BC)`, `LD A,(DE)`, `LD A,(HL+)`, `LD A,(HL-)`, `LDH A,(n8)`, `LDH A,(C)`, `LD A,(n16)` (R211, R219
to R222, R224, R226, R228): the byte read at the address in the state before the load. Constructors `ldBIndHl`,
`ldCIndHl`, `ldDIndHl`, `ldEIndHl`, `ldHIndHl`, `ldLIndHl`, `ldAIndHl`, `ldAIndBc`, `ldAIndDe`, `ldAIndHlInc`,
`ldAIndHlDec`, `ldhAIndN8`, `ldhAIndC`, `ldAIndN16`. -/
def Obligations.MemoryLoads : Prop :=
  (∀ (s : State) (rd : Reg), ∃ t, exec (Instr.ld (.reg rd) .hlInd) s = .next t ∧ t.reg rd = busRead s s.hl ∧
    t.cpu.f = s.cpu.f ∧ CpuFrame s t [rd] ∧ KeptOutside s t ∧ Costs t 8 ∧
    encode (Instr.ld (.reg rd) .hlInd) = [BitVec.ofNat 8 (0x46 + 8 * slotNumber (.reg rd))]) ∧
  (∀ (s : State) (n : Byte) (nn : Word), ∀ i addr cost bytes,
    (i, addr, cost, bytes) ∈
      [(Instr.ldAIndBc, s.bc, 8, [0x0A#8]), (Instr.ldAIndDe, s.de, 8, [0x1A#8]),
        (Instr.ldhAIndN8 n, 0xFF00#16 + n.zeroExtend 16, 12, [0xF0#8, n]),
        (Instr.ldhAIndC, 0xFF00#16 + s.cpu.c.zeroExtend 16, 8, [0xF2#8]),
        (Instr.ldAIndN16 nn, nn, 16, [0xFA#8, nn.extractLsb' 0 8, nn.extractLsb' 8 8])] →
    ∃ t, exec i s = .next t ∧ t.cpu.a = busRead s addr ∧ t.cpu.f = s.cpu.f ∧ CpuFrame s t [.a] ∧
      KeptOutside s t ∧ Costs t cost ∧ encode i = bytes) ∧
  (∀ s : State, ∀ i hl' byte,
    (i, hl', byte) ∈ [(Instr.ldAIndHlInc, s.hl + 1#16, 0x2A#8), (Instr.ldAIndHlDec, s.hl - 1#16, 0x3A#8)] →
    ∃ t, exec i s = .next t ∧ t.cpu.a = busRead s s.hl ∧ t.hl = hl' ∧ t.cpu.f = s.cpu.f ∧
      CpuFrame s t [.a, .h, .l] ∧ KeptOutside s t ∧ Costs t 8 ∧ encode i = [byte])

/-- `LD (HL),r`, `LD (HL),n8`, `LD (BC),A`, `LD (DE),A`, `LD (HL+),A`, `LD (HL-),A`, `LDH (n8),A`, `LDH (C),A`, `LD (n16),A`
(R212, R214 to R218, R223, R225, R227): the byte is stored through the bus at the address in the state before
the store, and nothing else changes but `HL` of the two stepping forms. Constructors `ldIndHlB`, `ldIndHlC`,
`ldIndHlD`, `ldIndHlE`, `ldIndHlH`, `ldIndHlL`, `ldIndHlA`, `ldIndHlN8`, `ldIndBcA`, `ldIndDeA`, `ldIndHlIncA`,
`ldIndHlDecA`, `ldhIndN8A`, `ldhIndCA`, `ldIndN16A`. -/
def Obligations.MemoryStores : Prop :=
  ∀ s : State, MemoryInv s →
  (∀ (r : Reg) (n : Byte) (nn : Word), ∀ i addr v cost bytes,
    (i, addr, v, cost, bytes) ∈
      [(Instr.ld .hlInd (.reg r), s.hl, s.reg r, 8, [BitVec.ofNat 8 (0x70 + slotNumber (.reg r))]),
        (Instr.ldIndHlN8 n, s.hl, n, 12, [0x36#8, n]),
        (Instr.ldIndBcA, s.bc, s.cpu.a, 8, [0x02#8]), (Instr.ldIndDeA, s.de, s.cpu.a, 8, [0x12#8]),
        (Instr.ldhIndN8A n, 0xFF00#16 + n.zeroExtend 16, s.cpu.a, 12, [0xE0#8, n]),
        (Instr.ldhIndCA, 0xFF00#16 + s.cpu.c.zeroExtend 16, s.cpu.a, 8, [0xE2#8]),
        (Instr.ldIndN16A nn, nn, s.cpu.a, 16, [0xEA#8, nn.extractLsb' 0 8, nn.extractLsb' 8 8])] →
    ∃ t, exec i s = .next t ∧ StoredByte s t addr v ∧ t.cpu.f = s.cpu.f ∧ CpuFrame s t [] ∧ Costs t cost ∧
      encode i = bytes) ∧
  (∀ i hl' byte,
    (i, hl', byte) ∈ [(Instr.ldIndHlIncA, s.hl + 1#16, 0x22#8), (Instr.ldIndHlDecA, s.hl - 1#16, 0x32#8)] →
    ∃ t, exec i s = .next t ∧ StoredByte s t s.hl s.cpu.a ∧ t.hl = hl' ∧ t.cpu.f = s.cpu.f ∧
      CpuFrame s t [.h, .l] ∧ Costs t 8 ∧ encode i = [byte])

/-! ## 16-bit loads and the stack (42_load16.md) -/

/-- `LD rp,n16`, `LD (n16),SP`, `LD SP,HL` (R240 to R242). Constructors `ldBcN16`, `ldDeN16`, `ldHlN16`, `ldSpN16`,
`ldIndN16Sp`, `ldSpHl`. `LD (n16),SP` stores the low byte first. -/
def Obligations.PairLoads : Prop :=
  (∀ (s : State) (p : Pair) (nn : Word), ∃ t, exec (Instr.ldPair p nn) s = .next t ∧ readPair t p = nn ∧
    t.cpu.f = s.cpu.f ∧ KeptRegs s t (pairRegs p) ∧ (p ≠ .sp → t.cpu.sp = s.cpu.sp) ∧ t.cpu.pc = s.cpu.pc ∧
    KeptControl s t ∧ KeptOutside s t ∧ Costs t 12 ∧
    encode (Instr.ldPair p nn) =
      [BitVec.ofNat 8 (0x01 + 16 * pairNumber p), nn.extractLsb' 0 8, nn.extractLsb' 8 8]) ∧
  (∀ (s : State) (nn : Word), MemoryInv s → ∃ t, exec (.ldIndN16Sp nn) s = .next t ∧
    StoredTwo s t nn (s.cpu.sp.extractLsb' 0 8) (nn + 1#16) (s.cpu.sp.extractLsb' 8 8) ∧
    t.cpu.f = s.cpu.f ∧ CpuFrame s t [] ∧ Costs t 20 ∧
    encode (.ldIndN16Sp nn) = [0x08#8, nn.extractLsb' 0 8, nn.extractLsb' 8 8]) ∧
  (∀ s : State, ∃ t, exec .ldSpHl s = .next t ∧ t.cpu.sp = s.cpu.h ++ s.cpu.l ∧ KeptRegs s t [] ∧
    t.cpu.f = s.cpu.f ∧ t.cpu.pc = s.cpu.pc ∧ KeptControl s t ∧ KeptOutside s t ∧ Costs t 8 ∧
    encode .ldSpHl = [0xF9#8])

/-- `LD HL,SP+e8` and `ADD SP,e8` (R243, 43_incdec_add16.md R267): the offset is signed, the flags are the carries of
the low byte of `SP` plus the operand taken as unsigned (`SP_ADD_FLAGS = low_byte`). Constructors `ldHlSpE8`,
`addSpE8`. -/
def Obligations.StackPointerPlusOffset : Prop :=
  ∀ (s : State) (e : Byte), s.cfg.spAddFlags = .lowByte →
    let hf := decide (0xF < (s.cpu.sp.extractLsb' 0 4).toNat + (e.extractLsb' 0 4).toNat)
    let cf := decide (0xFF < (s.cpu.sp.extractLsb' 0 8).toNat + e.toNat)
    (∃ t, exec (.ldHlSpE8 e) s = .next t ∧ t.hl = s.cpu.sp + signed16 e ∧ FlagsAre t.cpu.f false false hf cf ∧
      CpuFrame s t [.h, .l] ∧ KeptOutside s t ∧ Costs t 12 ∧ encode (.ldHlSpE8 e) = [0xF8#8, e]) ∧
    (∃ t, exec (.addSpE8 e) s = .next t ∧ t.cpu.sp = s.cpu.sp + signed16 e ∧ FlagsAre t.cpu.f false false hf cf ∧
      KeptRegs s t [] ∧ t.cpu.pc = s.cpu.pc ∧ KeptControl s t ∧ KeptOutside s t ∧ Costs t 16 ∧
      encode (.addSpE8 e) = [0xE8#8, e])

/-- `PUSH rp2` (R244): high byte to `SP - 1`, low byte to `SP - 2`, `SP` down by two. Constructors `pushBc`, `pushDe`,
`pushHl`, `pushAf`. -/
def Obligations.Pushes : Prop :=
  ∀ (s : State) (p : StackPair), MemoryInv s → ∃ t, exec (Instr.push p) s = .next t ∧
    Pushed s t (match p with
      | .bc => s.cpu.b ++ s.cpu.c
      | .de => s.cpu.d ++ s.cpu.e
      | .hl => s.cpu.h ++ s.cpu.l
      | .af => s.cpu.a ++ s.cpu.f) ∧
    t.cpu.pc = s.cpu.pc ∧ JumpFrame s t ∧ Costs t 16 ∧
    encode (Instr.push p) = [BitVec.ofNat 8 (0xC5 + 16 * stackPairNumber p)]

/-- `POP rp2` (R245): low byte from `SP`, high byte from `SP + 1`, `SP` up by two; `POP AF` loads the four flags and
discards bits 3:0 of the popped byte. Constructors `popBc`, `popDe`, `popHl`, `popAf`. -/
def Obligations.Pops : Prop :=
  ∀ s : State,
    let lo := busRead s s.cpu.sp
    let hi := busRead s (s.cpu.sp + 1#16)
    (∀ p : StackPair, ∃ t, exec (Instr.pop p) s = .next t ∧ t.cpu.sp = s.cpu.sp + 2#16 ∧
      KeptRegs s t (stackPairRegs p) ∧ (p ≠ .af → t.cpu.f = s.cpu.f) ∧ t.cpu.pc = s.cpu.pc ∧ KeptControl s t ∧
      KeptOutside s t ∧ Costs t 12 ∧
      (match p with
        | .bc => t.cpu.b = hi ∧ t.cpu.c = lo
        | .de => t.cpu.d = hi ∧ t.cpu.e = lo
        | .hl => t.cpu.h = hi ∧ t.cpu.l = lo
        | .af => t.cpu.a = hi ∧
            FlagsAre t.cpu.f (lo.getLsbD 7) (lo.getLsbD 6) (lo.getLsbD 5) (lo.getLsbD 4)) ∧
      encode (Instr.pop p) = [BitVec.ofNat 8 (0xC1 + 16 * stackPairNumber p)])

/-! ## Increment, decrement, 16-bit add (43_incdec_add16.md) -/

/-- `INC r`, `INC (HL)`, `DEC r`, `DEC (HL)` (R260 to R263): C is kept. Constructors `incB` to `incA`, `incIndHl`, `decB` to
`decA`, `decIndHl`. -/
def Obligations.IncrementsAndDecrements : Prop :=
  (∀ (s : State) (r : Reg), ∃ t, exec (Instr.inc (.reg r)) s = .next t ∧ t.reg r = s.reg r + 1#8 ∧
    FlagsAre t.cpu.f (decide (s.reg r + 1#8 = 0#8)) false (decide ((s.reg r).extractLsb' 0 4 = 0xF#4))
      (s.cpu.f.getLsbD 4) ∧
    CpuFrame s t [r] ∧ KeptOutside s t ∧ Costs t 4 ∧
    encode (Instr.inc (.reg r)) = [BitVec.ofNat 8 (0x04 + 8 * slotNumber (.reg r))]) ∧
  (∀ (s : State) (r : Reg), ∃ t, exec (Instr.dec (.reg r)) s = .next t ∧ t.reg r = s.reg r - 1#8 ∧
    FlagsAre t.cpu.f (decide (s.reg r - 1#8 = 0#8)) true (decide ((s.reg r).extractLsb' 0 4 = 0x0#4))
      (s.cpu.f.getLsbD 4) ∧
    CpuFrame s t [r] ∧ KeptOutside s t ∧ Costs t 4 ∧
    encode (Instr.dec (.reg r)) = [BitVec.ofNat 8 (0x05 + 8 * slotNumber (.reg r))]) ∧
  (∀ s : State, MemoryInv s →
    let v := busRead s s.hl
    (∃ t, exec .incIndHl s = .next t ∧ StoredByte s t s.hl (v + 1#8) ∧
      FlagsAre t.cpu.f (decide (v + 1#8 = 0#8)) false (decide (v.extractLsb' 0 4 = 0xF#4)) (s.cpu.f.getLsbD 4) ∧
      CpuFrame s t [] ∧ Costs t 12 ∧ encode .incIndHl = [0x34#8]) ∧
    (∃ t, exec .decIndHl s = .next t ∧ StoredByte s t s.hl (v - 1#8) ∧
      FlagsAre t.cpu.f (decide (v - 1#8 = 0#8)) true (decide (v.extractLsb' 0 4 = 0x0#4)) (s.cpu.f.getLsbD 4) ∧
      CpuFrame s t [] ∧ Costs t 12 ∧ encode .decIndHl = [0x35#8]))

/-- `INC rp`, `DEC rp` (R264, R265): modulo 2^16, no flag; `ADD HL,rp` (R266): H is the carry out of bit 11, C out of
bit 15, Z is kept. Constructors `incBc`, `incDe`, `incHl`, `incSp`, `decBc`, `decDe`, `decHl`, `decSp`, `addHlBc`,
`addHlDe`, `addHlHl`, `addHlSp`. -/
def Obligations.PairArithmetic : Prop :=
  ∀ (s : State) (p : Pair),
    (∃ t, exec (Instr.incPair p) s = .next t ∧ readPair t p = readPair s p + 1#16 ∧ t.cpu.f = s.cpu.f ∧
      KeptRegs s t (pairRegs p) ∧ (p ≠ .sp → t.cpu.sp = s.cpu.sp) ∧ t.cpu.pc = s.cpu.pc ∧ KeptControl s t ∧
      KeptOutside s t ∧ Costs t 8 ∧ encode (Instr.incPair p) = [BitVec.ofNat 8 (0x03 + 16 * pairNumber p)]) ∧
    (∃ t, exec (Instr.decPair p) s = .next t ∧ readPair t p = readPair s p - 1#16 ∧ t.cpu.f = s.cpu.f ∧
      KeptRegs s t (pairRegs p) ∧ (p ≠ .sp → t.cpu.sp = s.cpu.sp) ∧ t.cpu.pc = s.cpu.pc ∧ KeptControl s t ∧
      KeptOutside s t ∧ Costs t 8 ∧ encode (Instr.decPair p) = [BitVec.ofNat 8 (0x0B + 16 * pairNumber p)]) ∧
    (∃ t, exec (Instr.addHl p) s = .next t ∧ t.hl = s.hl + readPair s p ∧
      FlagsAre t.cpu.f (s.cpu.f.getLsbD 7) false
        (decide (0x0FFF < (s.hl.extractLsb' 0 12).toNat + ((readPair s p).extractLsb' 0 12).toNat))
        (decide (0xFFFF < s.hl.toNat + (readPair s p).toNat)) ∧
      CpuFrame s t [.h, .l] ∧ KeptOutside s t ∧ Costs t 8 ∧
      encode (Instr.addHl p) = [BitVec.ofNat 8 (0x09 + 16 * pairNumber p)])

/-! ## ALU (44_alu.md) -/

/-- `ADD` and `ADC`, all three operand forms (R281, R282); the carry-in takes part in both carries. Constructors
`addAB` to `addAA`, `addAIndHl`, `addAN8`, `adcAB` to `adcAA`, `adcAIndHl`, `adcAN8`. -/
def Obligations.AddAndAdc : Prop :=
  ∀ (s : State) (r : Reg) (n : Byte),
    (∀ i v cost bytes, (i, v, cost, bytes) ∈ aluForms .add s r n →
      ∃ t, exec i s = .next t ∧ t.cpu.a = s.cpu.a + v ∧
        FlagsAre t.cpu.f (decide (t.cpu.a = 0#8)) false
          (decide (0xF < (s.cpu.a.extractLsb' 0 4).toNat + (v.extractLsb' 0 4).toNat))
          (decide (0xFF < s.cpu.a.toNat + v.toNat)) ∧
        CpuFrame s t [.a] ∧ KeptOutside s t ∧ Costs t cost ∧ encode i = bytes) ∧
    (∀ i v cost bytes, (i, v, cost, bytes) ∈ aluForms .adc s r n →
      let c : Nat := if s.cpu.f.getLsbD 4 then 1 else 0
      ∃ t, exec i s = .next t ∧ t.cpu.a = BitVec.ofNat 8 (s.cpu.a.toNat + v.toNat + c) ∧
        FlagsAre t.cpu.f (decide (t.cpu.a = 0#8)) false
          (decide (0xF < (s.cpu.a.extractLsb' 0 4).toNat + (v.extractLsb' 0 4).toNat + c))
          (decide (0xFF < s.cpu.a.toNat + v.toNat + c)) ∧
        CpuFrame s t [.a] ∧ KeptOutside s t ∧ Costs t cost ∧ encode i = bytes)

/-- `SUB`, `SBC` and `CP`, all three operand forms (R283, R284, R288); the borrow-in takes part in both borrows, and
`CP` writes the flags only. Constructors `subAB` to `subAN8`, `sbcAB` to `sbcAN8`, `cpAB` to `cpAN8`. -/
def Obligations.SubSbcAndCp : Prop :=
  ∀ (s : State) (r : Reg) (n : Byte),
    (∀ i v cost bytes, (i, v, cost, bytes) ∈ aluForms .sub s r n →
      ∃ t, exec i s = .next t ∧ t.cpu.a = s.cpu.a - v ∧
        FlagsAre t.cpu.f (decide (t.cpu.a = 0#8)) true
          (decide ((s.cpu.a.extractLsb' 0 4).toNat < (v.extractLsb' 0 4).toNat))
          (decide (s.cpu.a.toNat < v.toNat)) ∧
        CpuFrame s t [.a] ∧ KeptOutside s t ∧ Costs t cost ∧ encode i = bytes) ∧
    (∀ i v cost bytes, (i, v, cost, bytes) ∈ aluForms .sbc s r n →
      let c : Nat := if s.cpu.f.getLsbD 4 then 1 else 0
      ∃ t, exec i s = .next t ∧ (t.cpu.a.toNat : Int) = ((s.cpu.a.toNat : Int) - v.toNat - c) % 256 ∧
        FlagsAre t.cpu.f (decide (t.cpu.a = 0#8)) true
          (decide ((s.cpu.a.extractLsb' 0 4).toNat < (v.extractLsb' 0 4).toNat + c))
          (decide (s.cpu.a.toNat < v.toNat + c)) ∧
        CpuFrame s t [.a] ∧ KeptOutside s t ∧ Costs t cost ∧ encode i = bytes) ∧
    (∀ i v cost bytes, (i, v, cost, bytes) ∈ aluForms .cp s r n →
      ∃ t, exec i s = .next t ∧
        FlagsAre t.cpu.f (decide (s.cpu.a = v)) true
          (decide ((s.cpu.a.extractLsb' 0 4).toNat < (v.extractLsb' 0 4).toNat))
          (decide (s.cpu.a.toNat < v.toNat)) ∧
        CpuFrame s t [] ∧ KeptOutside s t ∧ Costs t cost ∧ encode i = bytes)

/-- `AND`, `XOR` and `OR`, all three operand forms (R285 to R287). Constructors `andAB` to `andAN8`, `xorAB` to `xorAN8`,
`orAB` to `orAN8`. -/
def Obligations.LogicalOperations : Prop :=
  ∀ (s : State) (r : Reg) (n : Byte),
    ∀ op f hf, (op, f, hf) ∈
      [(AluOp.and, (fun a v : Bool => a && v), true), (AluOp.xor, (fun a v => a != v), false),
        (AluOp.or, (fun a v => a || v), false)] →
    ∀ i v cost bytes, (i, v, cost, bytes) ∈ aluForms op s r n →
      ∃ t, exec i s = .next t ∧ (∀ k < 8, t.cpu.a.getLsbD k = f (s.cpu.a.getLsbD k) (v.getLsbD k)) ∧
        FlagsAre t.cpu.f (decide (t.cpu.a = 0#8)) false hf false ∧
        CpuFrame s t [.a] ∧ KeptOutside s t ∧ Costs t cost ∧ encode i = bytes

/-! ## Accumulator operations (45_accumulator.md) -/

/-- `RLCA`, `RRCA`, `RLA`, `RRA` (R300 to R303): Z is always cleared. Constructors `rlca`, `rrca`, `rla`, `rra`. -/
def Obligations.AccumulatorRotates : Prop :=
  ∀ (s : State), ∀ i op byte,
    (i, op, byte) ∈ [(Instr.rlca, RotOp.rlc, 0x07#8), (Instr.rrca, RotOp.rrc, 0x0F#8),
      (Instr.rla, RotOp.rl, 0x17#8), (Instr.rra, RotOp.rr, 0x1F#8)] →
    let r := shifted op s.cpu.a (s.cpu.f.getLsbD 4)
    ∃ t, exec i s = .next t ∧ t.cpu.a = r.1 ∧ FlagsAre t.cpu.f false false false r.2 ∧
      CpuFrame s t [.a] ∧ KeptOutside s t ∧ Costs t 4 ∧ encode i = [byte]

/-- `DAA` (R304), its two arms as the rule writes them. Constructor `daa`. -/
def Obligations.DecimalAdjust : Prop :=
  ∀ s : State,
    let a := s.cpu.a
    let n := s.cpu.f.getLsbD 6
    let hf := s.cpu.f.getLsbD 5
    let c := s.cpu.f.getLsbD 4
    ∃ t, exec .daa s = .next t ∧
      (n = false →
        let adj := (if hf = true ∨ 9 < (a.extractLsb' 0 4).toNat then 0x06 else 0) +
          (if c = true ∨ 0x99 < a.toNat then 0x60 else 0)
        t.cpu.a = BitVec.ofNat 8 (a.toNat + adj) ∧
          FlagsAre t.cpu.f (decide (t.cpu.a = 0#8)) false false (c || decide (0x99 < a.toNat))) ∧
      (n = true →
        let adj := (if hf = true then 0x06#8 else 0#8) + (if c = true then 0x60#8 else 0#8)
        t.cpu.a = a - adj ∧ FlagsAre t.cpu.f (decide (t.cpu.a = 0#8)) true false c) ∧
      CpuFrame s t [.a] ∧ KeptOutside s t ∧ Costs t 4 ∧ encode .daa = [0x27#8]

/-- `CPL`, `SCF`, `CCF` (R305 to R307). Constructors `cpl`, `scf`, `ccf`. -/
def Obligations.ComplementAndCarry : Prop :=
  ∀ s : State,
    (∃ t, exec .cpl s = .next t ∧ t.cpu.a = ~~~s.cpu.a ∧
      FlagsAre t.cpu.f (s.cpu.f.getLsbD 7) true true (s.cpu.f.getLsbD 4) ∧ CpuFrame s t [.a] ∧
      KeptOutside s t ∧ Costs t 4 ∧ encode .cpl = [0x2F#8]) ∧
    (∃ t, exec .scf s = .next t ∧ FlagsAre t.cpu.f (s.cpu.f.getLsbD 7) false false true ∧
      CpuFrame s t [] ∧ KeptOutside s t ∧ Costs t 4 ∧ encode .scf = [0x37#8]) ∧
    (∃ t, exec .ccf s = .next t ∧ FlagsAre t.cpu.f (s.cpu.f.getLsbD 7) false false (!s.cpu.f.getLsbD 4) ∧
      CpuFrame s t [] ∧ KeptOutside s t ∧ Costs t 4 ∧ encode .ccf = [0x3F#8])

/-! ## Extended table (46_cb_extended.md) -/

/-- The rotates, shifts and `SWAP` of the extended table, of a register and of the byte at `HL` (R316 to R323).
Constructors `rlcB` to `rlcA`, `rrcB` to `rrcA`, `rlB` to `rlA`, `rrB` to `rrA`, `slaB` to `slaA`, `sraB` to `sraA`, `swapB` to
`swapA`, `srlB` to `srlA`, the `IndHl` form of each among them. -/
def Obligations.RotatesAndShifts : Prop :=
  ∀ (s : State) (op : RotOp),
    let c := s.cpu.f.getLsbD 4
    (∀ r : Reg,
      let x := shifted op (s.reg r) c
      ∃ t, exec (Instr.rot op (.reg r)) s = .next t ∧ t.reg r = x.1 ∧
        FlagsAre t.cpu.f (decide (x.1 = 0#8)) false false x.2 ∧ CpuFrame s t [r] ∧ KeptOutside s t ∧ Costs t 8 ∧
        encode (Instr.rot op (.reg r)) =
          [0xCB#8, BitVec.ofNat 8 (8 * rotNumber op + slotNumber (.reg r))]) ∧
    (MemoryInv s →
      let x := shifted op (busRead s s.hl) c
      ∃ t, exec (Instr.rot op .hlInd) s = .next t ∧ StoredByte s t s.hl x.1 ∧
        FlagsAre t.cpu.f (decide (x.1 = 0#8)) false false x.2 ∧ CpuFrame s t [] ∧ Costs t 16 ∧
        encode (Instr.rot op .hlInd) = [0xCB#8, BitVec.ofNat 8 (8 * rotNumber op + 6)])

/-- `BIT b,r8` (R324): Z is the complement of the bit, nothing is written back. Constructors `bit0B` to `bit7A`. -/
def Obligations.BitTests : Prop :=
  ∀ (s : State) (b : Fin 8),
    (∀ r : Reg, ∃ t, exec (Instr.bit b.val (.reg r)) s = .next t ∧
      FlagsAre t.cpu.f (!(s.reg r).getLsbD b.val) false true (s.cpu.f.getLsbD 4) ∧ CpuFrame s t [] ∧
      KeptOutside s t ∧ Costs t 8 ∧
      encode (Instr.bit b.val (.reg r)) = [0xCB#8, BitVec.ofNat 8 (0x40 + 8 * b.val + slotNumber (.reg r))]) ∧
    (∃ t, exec (Instr.bit b.val .hlInd) s = .next t ∧
      FlagsAre t.cpu.f (!(busRead s s.hl).getLsbD b.val) false true (s.cpu.f.getLsbD 4) ∧ CpuFrame s t [] ∧
      KeptOutside s t ∧ Costs t 12 ∧
      encode (Instr.bit b.val .hlInd) = [0xCB#8, BitVec.ofNat 8 (0x46 + 8 * b.val)])

/-- `RES b,r8` and `SET b,r8` (R325, R326): the one bit is written, no flag changes. Constructors `res0B` to `res7A` and
`set0B` to `set7A`. -/
def Obligations.BitWrites : Prop :=
  ∀ (s : State) (b : Fin 8), ∀ ins w base,
    (ins, w, base) ∈ [(Instr.res, false, 0x80), (Instr.set, true, 0xC0)] →
    (∀ r : Reg, ∃ t, exec (ins b.val (.reg r)) s = .next t ∧
      (∀ k < 8, (t.reg r).getLsbD k = if k = b.val then w else (s.reg r).getLsbD k) ∧
      t.cpu.f = s.cpu.f ∧ CpuFrame s t [r] ∧ KeptOutside s t ∧ Costs t 8 ∧
      encode (ins b.val (.reg r)) = [0xCB#8, BitVec.ofNat 8 (base + 8 * b.val + slotNumber (.reg r))]) ∧
    (MemoryInv s → ∃ t v, exec (ins b.val .hlInd) s = .next t ∧
      (∀ k < 8, v.getLsbD k = if k = b.val then w else (busRead s s.hl).getLsbD k) ∧
      StoredByte s t s.hl v ∧ t.cpu.f = s.cpu.f ∧ CpuFrame s t [] ∧ Costs t 16 ∧
      encode (ins b.val .hlInd) = [0xCB#8, BitVec.ofNat 8 (base + 8 * b.val + 6)])

/-- `PREFIX_CB` executes the row of the second byte, which it fetches at `PC` (R315). Constructor `prefixCb`. That the
row is an instruction without operand whose meaning fetches its second byte is the model's choice (log entry 9);
a step decodes both bytes at once. -/
def Obligations.PrefixRunsSecondByte : Prop :=
  ∀ s : State, ∃ i t, decode [0xCB#8, busRead s s.cpu.pc] = .ok (i, []) ∧
    exec .prefixCb s = exec i { s with cpu.pc := s.cpu.pc + 1#16 } ∧ exec .prefixCb s = .next t ∧
    t.cpu.pc = s.cpu.pc + 1#16 ∧ encode .prefixCb = [0xCB#8]

/-! ## System instructions and exceptions (47_system.md, 60_exceptions.md) -/

/-- `NOP`, `HALT`, `STOP` as they execute (R340, R341, R342). Constructors `nop`, `halt`, `stop`. `HALT` with `IME = 0` and an
enabled interrupt pending sets the halt quirk and does not halt. -/
def Obligations.NopHaltStop : Prop :=
  ∀ s : State,
    (∃ t, exec .nop s = .next t ∧ t.cpu.f = s.cpu.f ∧ CpuFrame s t [] ∧ KeptOutside s t ∧ Costs t 4 ∧
      encode .nop = [0x00#8]) ∧
    (∃ t, exec .halt s = .next t ∧
      (s.cpu.ime = false ∧ (∃ n, Pending s n) → t.cpu.haltBug = true ∧ t.cpu.halted = s.cpu.halted) ∧
      (¬ (s.cpu.ime = false ∧ ∃ n, Pending s n) → t.cpu.halted = true ∧ t.cpu.haltBug = s.cpu.haltBug) ∧
      t.cpu.ime = s.cpu.ime ∧ t.cpu.stopped = s.cpu.stopped ∧ t.cpu.eiPending = s.cpu.eiPending ∧
      KeptRegs s t [] ∧ t.cpu.f = s.cpu.f ∧ t.cpu.sp = s.cpu.sp ∧ t.cpu.pc = s.cpu.pc ∧ KeptOutside s t ∧
      Costs t 4 ∧ encode .halt = [0x76#8]) ∧
    (∃ t, exec .stop s = .next t ∧ t.cpu.stopped = true ∧ t.cpu.ime = s.cpu.ime ∧ t.cpu.halted = s.cpu.halted ∧
      t.cpu.haltBug = s.cpu.haltBug ∧ t.cpu.eiPending = s.cpu.eiPending ∧ KeptRegs s t [] ∧ t.cpu.f = s.cpu.f ∧
      t.cpu.sp = s.cpu.sp ∧ t.cpu.pc = s.cpu.pc ∧ KeptOutside s t ∧ Costs t 4 ∧ encode .stop = [0x10#8])

/-- The eleven undefined first bytes latch the invalid flag and change nothing else, and no other instruction latches
it (30_encoding.md R155, 47_system.md R343, 60_exceptions.md R361). Constructors `illegalD3`, `illegalDB`,
`illegalDD`, `illegalE3`, `illegalE4`, `illegalEB`, `illegalEC`, `illegalED`, `illegalF4`, `illegalFC`, `illegalFD`. -/
def Obligations.UndefinedOpcodes : Prop :=
  (∀ i byte, (i, byte) ∈
      [(Instr.illegalD3, 0xD3#8), (Instr.illegalDB, 0xDB#8), (Instr.illegalDD, 0xDD#8), (Instr.illegalE3, 0xE3#8),
        (Instr.illegalE4, 0xE4#8), (Instr.illegalEB, 0xEB#8), (Instr.illegalEC, 0xEC#8), (Instr.illegalED, 0xED#8),
        (Instr.illegalF4, 0xF4#8), (Instr.illegalFC, 0xFC#8), (Instr.illegalFD, 0xFD#8)] →
    encode i = [byte] ∧ ∀ s : State, exec i s = .next { s with bus.invalid := true }) ∧
  (∀ (op b1 b2 : Byte) (i : Instr) (rest : List Byte), decode [op, b1, b2] = .ok (i, rest) →
    op ∉ [0xD3#8, 0xDB#8, 0xDD#8, 0xE3#8, 0xE4#8, 0xEB#8, 0xEC#8, 0xED#8, 0xF4#8, 0xFC#8, 0xFD#8] →
    ∀ s t : State, exec i s = .next t → t.bus.invalid = s.bus.invalid)

/-- The ticks in which the CPU executes nothing (R400, R401, 47_system.md R341 to R343): an invalid or stopped machine
leaves the whole CPU alone, a halted one with nothing pending too, one that owes ticks pays one; the pixel
processor and the timer go on in each. -/
def Obligations.TicksWithoutExecution : Prop :=
  ∀ s : State,
    (s.bus.invalid = true ∨ s.cpu.stopped = true →
      step s = .next (timerTick (ppuDot { s with bus.tick := s.bus.tick + 1 }))) ∧
    (s.cpu.halted = true → (∀ n, ¬ Pending s n) →
      step s = .next (timerTick (ppuDot { s with bus.tick := s.bus.tick + 1 }))) ∧
    (s.bus.invalid = false → s.cpu.stopped = false → 0 < s.cpu.wait → (s.cpu.halted = true → ∃ n, Pending s n) →
      step s = .next (timerTick (ppuDot
        { s with bus.tick := s.bus.tick + 1, cpu.wait := s.cpu.wait - 1, cpu.halted := false })))

/-- Interrupt entry (R365, R366): at a boundary with `IME = 1` the lowest-numbered enabled pending source is taken. Its
pending bit and `IME` are cleared, `PC` is pushed, `PC` becomes the source's vector, 20 ticks are charged, and
nothing else changes; a halted CPU wakes. That a delayed `EI` is cancelled with `IME` is the model's (log entry 4). -/
def Obligations.InterruptEntry : Prop :=
  ∀ (s : State) (n : Nat), MemoryInv s → s.bus.invalid = false → s.cpu.wait = 0 → s.cpu.ime = true →
    Pending s n → (∀ m < n, ¬ Pending s m) →
    ∃ t, cpuTick s = .next t ∧
      Pushed { s with bus.iflag := s.bus.iflag &&& ~~~(1#5 <<< n) } t s.cpu.pc ∧
      t.cpu.ime = false ∧ t.cpu.eiPending = false ∧ t.cpu.halted = false ∧ t.cpu.stopped = s.cpu.stopped ∧
      t.cpu.haltBug = s.cpu.haltBug ∧ KeptRegs s t [] ∧ t.cpu.f = s.cpu.f ∧ Costs t 20 ∧
      (n = 0 → t.cpu.pc = s.cfg.vector.vblank) ∧ (n = 1 → t.cpu.pc = s.cfg.vector.lcdStatus) ∧
      (n = 2 → t.cpu.pc = s.cfg.vector.timer) ∧ (n = 3 → t.cpu.pc = s.cfg.vector.serial) ∧
      (n = 4 → t.cpu.pc = s.cfg.vector.joypad) ∧
      (s.cfg.vector = Config.spec.vector → t.cpu.pc = BitVec.ofNat 16 (0x0040 + 8 * n))

/-- Only `DI`, `EI` and `RETI` change the master enable when they execute (10_state.md R30). -/
def Obligations.MasterEnableWriters : Prop :=
  ∀ (i : Instr) (s t : State), exec i s = .next t → i ∉ [Instr.di, Instr.ei, Instr.reti] →
    t.cpu.ime = s.cpu.ime

/-- No step faults or is refused. That a step on an undefined opcode, the one synchronous exception of the machine,
answers a next state and no fault is the model's choice (log entry 7), from 47_system.md R343 and 60_exceptions.md R400:
the invalid flag is latched and the bus step goes on. -/
def Obligations.StepAlwaysAnswers : Prop :=
  ∀ s : State, ∃ t, step s = .next t ∧ t.bus.tick = s.bus.tick + 1 ∧ t.cfg = s.cfg

/-! ## Divider and timer (60_exceptions.md R411 to R414) -/

/-- The divider and timer at the end of a step (R411, R413, R414), and nothing else changes. A `DIV_PERIOD` or rate of 0
never divides a positive tick, as `Nat` has it. The values of `DIV_PERIOD` and `TIMER_RATE` are those of the reset
machine, and no step changes them (`StepAlwaysAnswers`). -/
def Obligations.DividerAndTimer : Prop :=
  State.reset.cfg.divPeriod = 255 ∧
  State.reset.cfg.timerRate = { rate0 := 1024, rate1 := 16, rate2 := 64, rate3 := 256 } ∧
  ∀ s : State,
    let t := timerTick s
    let rate := match (s.bus.tac.extractLsb' 0 2).toNat with
      | 0 => s.cfg.timerRate.rate0
      | 1 => s.cfg.timerRate.rate1
      | 2 => s.cfg.timerRate.rate2
      | _ => s.cfg.timerRate.rate3
    let due := s.bus.tac.getLsbD 2 = true ∧ s.bus.tick % rate = 0
    (s.bus.tick % s.cfg.divPeriod = 0 → t.bus.div = s.bus.div + 1#8) ∧
    (s.bus.tick % s.cfg.divPeriod ≠ 0 → t.bus.div = s.bus.div) ∧
    (due → s.bus.tima = 0xFF#8 → t.bus.tima = s.bus.tma ∧ t.bus.iflag = s.bus.iflag ||| 0b00100#5) ∧
    (due → s.bus.tima ≠ 0xFF#8 → t.bus.tima = s.bus.tima + 1#8 ∧ t.bus.iflag = s.bus.iflag) ∧
    (¬ due → t.bus.tima = s.bus.tima ∧ t.bus.iflag = s.bus.iflag) ∧
    t = { s with bus.div := t.bus.div, bus.tima := t.bus.tima, bus.iflag := t.bus.iflag }

/-! ## The bus (20_memory.md) -/

/-- A byte stored in RAM is read back, through either view of the work RAM, and the two views always show the same
byte (R78, R79; the other bytes are in the statement of each store). -/
def Obligations.StoresAreReadBack : Prop :=
  ∀ (s : State) (a b : Word) (v : Byte), MemoryInv s →
    (PlainRam s a → b = a ∨ EchoOf a b → busRead (busWrite s a v) b = v) ∧
    (EchoOf a b → busRead s b = busRead s a)

/-- Hidden video memory, unclaimed addresses and unmapped external RAM read open bus, and a write there changes nothing
(R84, R120, and the hidden side of R74, R75). -/
def Obligations.HiddenAndUnclaimed : Prop :=
  State.reset.cfg.openBus = 0xFF#8 ∧
  ∀ (s : State) (a : Word) (v : Byte),
    (0x8000 ≤ a.toNat ∧ a.toNat ≤ 0x9FFF ∧ s.ppu.lcdc.getLsbD 7 = true ∧ s.ppu.mode = .draw) ∨
    (0xFE00 ≤ a.toNat ∧ a.toNat ≤ 0xFE9F ∧ s.ppu.lcdc.getLsbD 7 = true ∧
      (s.ppu.mode = .search ∨ s.ppu.mode = .draw)) ∨
    (0xA000 ≤ a.toNat ∧ a.toNat ≤ 0xBFFF ∧
      (s.cart.ramBanks = 0 ∨ ∃ r, s.cart.ctrl = .banked r ∧ r.ramEnable = false)) ∨
    (0xFEA0 ≤ a.toNat ∧ a.toNat ≤ 0xFEFF) ∨ (0xFF01 ≤ a.toNat ∧ a.toNat ≤ 0xFF03) ∨
    (0xFF08 ≤ a.toNat ∧ a.toNat ≤ 0xFF0E) ∨ (0xFF10 ≤ a.toNat ∧ a.toNat ≤ 0xFF3F) ∨
    (0xFF4C ≤ a.toNat ∧ a.toNat ≤ 0xFF4F) ∨ (0xFF51 ≤ a.toNat ∧ a.toNat ≤ 0xFF7F) →
    busRead s a = s.cfg.openBus ∧ busWrite s a v = s

/-- What each memory-mapped register reads after a write of `v` (10_state.md R40 to R56, R73, R76): which bits are
stored, which read as 1, which are read-only. Of `JOYP` the two top bits and the select bits are stated. -/
def Obligations.RegistersReadBack : Prop :=
  ∀ (s : State) (v : Byte),
    let after := fun a : Word => busRead (busWrite s a v) a
    (after 0xFF00#16).extractLsb' 4 4 = 0b11#2 ++ v.extractLsb' 4 2 ∧
    after 0xFF04#16 = 0x00#8 ∧ after 0xFF05#16 = v ∧ after 0xFF06#16 = v ∧
    after 0xFF07#16 = 0xF8#8 ||| (v &&& 0x07#8) ∧ after 0xFF0F#16 = 0xE0#8 ||| (v &&& 0x1F#8) ∧
    after 0xFF50#16 = v ∧ after 0xFFFF#16 = v ∧
    after 0xFF40#16 = v ∧
    after 0xFF41#16 = 0x80#8 ||| (v &&& 0x78#8) ||| (busRead s 0xFF41#16 &&& 0x07#8) ∧
    after 0xFF42#16 = v ∧ after 0xFF43#16 = v ∧ after 0xFF44#16 = s.ppu.ly ∧ after 0xFF45#16 = v ∧
    after 0xFF46#16 = v ∧ after 0xFF47#16 = v ∧ after 0xFF48#16 = v ∧ after 0xFF49#16 = v ∧
    after 0xFF4A#16 = v ∧ after 0xFF4B#16 = v

/-- The joypad register reads (10_state.md R42) bits 7:6 as 1, the select bits as stored, and each lower bit as 0 exactly
when a button of a selected row is pressed. `SetButton` (60_exceptions.md R421): a press of a released button sets
`IF[4]`, whichever row is selected, and nothing else requests it; beside it only that line's level changes (with
`STOP_WAKE = never`). -/
def Obligations.JoypadAndButtons : Prop :=
  (∀ s : State,
    let j := busRead s 0xFF00#16
    let k := s.bus.buttons
    let dir := !s.bus.joypSel.getLsbD 0
    let act := !s.bus.joypSel.getLsbD 1
    j.getLsbD 7 = true ∧ j.getLsbD 6 = true ∧ j.getLsbD 5 = s.bus.joypSel.getLsbD 1 ∧
    j.getLsbD 4 = s.bus.joypSel.getLsbD 0 ∧
    j.getLsbD 3 = !((dir && k.down) || (act && k.start)) ∧
    j.getLsbD 2 = !((dir && k.up) || (act && k.select)) ∧
    j.getLsbD 1 = !((dir && k.left) || (act && k.b)) ∧
    j.getLsbD 0 = !((dir && k.right) || (act && k.a))) ∧
  (∀ (s : State) (x : Button) (v : Bool), s.cfg.stopWake = .never →
    let t := setButton s x v
    (v = true ∧ s.bus.buttons.level x = false → t.bus.iflag = s.bus.iflag ||| 0b10000#5) ∧
    (¬ (v = true ∧ s.bus.buttons.level x = false) → t.bus.iflag = s.bus.iflag) ∧
    t.bus.buttons.level x = v ∧ (∀ y, y ≠ x → t.bus.buttons.level y = s.bus.buttons.level y) ∧
    t = { s with bus.iflag := t.bus.iflag, bus.buttons := t.bus.buttons })

/-! ## The cartridge (20_memory.md R109 to R121) -/

/-- Writes into `0x0000`–`0x7FFF` (R112 to R116): on the banked variant they latch one register by region, on the direct
variant they are dropped. -/
def Obligations.BankLatches : Prop :=
  ∀ (s : State) (a : Word) (v : Byte), a.toNat ≤ 0x7FFF →
    (s.cart.ctrl = .direct → busWrite s a v = s) ∧
    (∀ r, s.cart.ctrl = .banked r →
      (a.toNat ≤ 0x1FFF → busWrite s a v =
        { s with cart.ctrl := .banked { r with ramEnable := decide (v.toNat % 16 = 0xA) } }) ∧
      (0x2000 ≤ a.toNat → a.toNat ≤ 0x3FFF → busWrite s a v =
        { s with cart.ctrl := .banked { r with
            bank5 := if v.toNat % 32 = 0 then 1#5 else BitVec.ofNat 5 v.toNat } }) ∧
      (0x4000 ≤ a.toNat → a.toNat ≤ 0x5FFF → busWrite s a v =
        { s with cart.ctrl := .banked { r with bank2 := BitVec.ofNat 2 v.toNat } }) ∧
      (0x6000 ≤ a.toNat → busWrite s a v =
        { s with cart.ctrl := .banked { r with mode := v.getLsbD 0 } }))

/-- Which byte the ROM and external-RAM windows show (R111, R117 to R119). -/
def Obligations.BankWindows : Prop :=
  ∀ (s : State) (a : Word),
    (s.cart.ctrl = .direct →
      (a.toNat ≤ 0x7FFF → busRead s a = Cells.read s.cart.rom a.toNat) ∧
      (0xA000 ≤ a.toNat → a.toNat ≤ 0xBFFF → s.cart.ramBanks ≠ 0 →
        busRead s a = Cells.read s.cart.xram (a.toNat - 0xA000))) ∧
    (∀ r, s.cart.ctrl = .banked r →
      (a.toNat ≤ 0x3FFF → busRead s a = Cells.read s.cart.rom a.toNat) ∧
      (0x4000 ≤ a.toNat → a.toNat ≤ 0x7FFF →
        busRead s a = Cells.read s.cart.rom
          (((if r.mode then 0 else 32 * r.bank2.toNat) + r.bank5.toNat) % s.cart.romBanks * 0x4000 +
            (a.toNat - 0x4000))) ∧
      (0xA000 ≤ a.toNat → a.toNat ≤ 0xBFFF → s.cart.ramBanks ≠ 0 → r.ramEnable = true →
        busRead s a = Cells.read s.cart.xram
          ((if r.mode then r.bank2.toNat else 0) % s.cart.ramBanks * 0x2000 + (a.toNat - 0xA000))))

/-- No step writes the ROM image, changes the bank counts, the cartridge's variant or a parameter (R121, 00_scope.md R9,
10_state.md R66). -/
def Obligations.CartridgeIsFixed : Prop :=
  ∀ s t : State, step s = .next t →
    t.cart.rom = s.cart.rom ∧ t.cart.romBanks = s.cart.romBanks ∧ t.cart.ramBanks = s.cart.ramBanks ∧
    (t.cart.ctrl = .direct ↔ s.cart.ctrl = .direct) ∧ t.cfg = s.cfg

/-- A write to `0xFF46` stores the value and copies 160 bytes into the sprite table before it returns (60_exceptions.md
R438): each byte is what the bus read shows before the write, but for the DMA register itself, which already holds
the value; the table is written whatever the mode, and nothing else changes. -/
def Obligations.DmaCopies : Prop :=
  ∀ (s : State) (v : Byte), MemoryInv s →
    let t := busWrite s 0xFF46#16 v
    (∀ k < 160, Cells.read t.ppu.oam k =
      if v = 0xFF#8 ∧ k = 0x46 then v else busRead s (BitVec.ofNat 16 (v.toNat * 256 + k))) ∧
    t = { s with ppu.dma := v, ppu.oam := t.ppu.oam }

/-! ## The pixel processor (60_exceptions.md R423 to R437) -/

/-- The scan advances one dot in every step, whatever the CPU does: 456 dots a line, 154 lines a frame (R423, R426). -/
def Obligations.ScanAdvances : Prop :=
  ∀ s t : State, s.ppu.dot < 456 → s.ppu.ly.toNat ≤ 153 → step s = .next t →
    456 * t.ppu.ly.toNat + t.ppu.dot = (456 * s.ppu.ly.toNat + s.ppu.dot + 1) % 70224 ∧
    t.ppu.dot < 456 ∧ t.ppu.ly.toNat ≤ 153

/-- The interrupt requests of a dot (R436, R437): vblank at the first dot of line 144 only, lcd-status in every dot in
which an enabled condition holds on the mode after this dot and the coincidence just recomputed; no other part of
the bus changes. -/
def Obligations.DotRequests : Prop :=
  ∀ s : State,
    let t := ppuDot s
    let first := s.ppu.ly.toNat = 144 ∧ s.ppu.dot = 0
    let condition := (s.ppu.statEn.getLsbD 3 = true ∧ s.ppu.lyc = s.ppu.ly) ∨
      (s.ppu.statEn.getLsbD 2 = true ∧ t.ppu.mode = .search) ∨
      (s.ppu.statEn.getLsbD 1 = true ∧ t.ppu.mode = .vblank) ∨
      (s.ppu.statEn.getLsbD 0 = true ∧ t.ppu.mode = .hblank)
    (t.bus.iflag.getLsbD 0 = true ↔ s.bus.iflag.getLsbD 0 = true ∨ first) ∧
    (t.bus.iflag.getLsbD 1 = true ↔ s.bus.iflag.getLsbD 1 = true ∨ condition) ∧
    (∀ k, 2 ≤ k → t.bus.iflag.getLsbD k = s.bus.iflag.getLsbD k) ∧
    (first → t.ppu.mode = .vblank) ∧
    (t.ppu.coincidence = true ↔ s.ppu.lyc = s.ppu.ly) ∧
    t.bus = { s.bus with iflag := t.bus.iflag } ∧ t.cpu = s.cpu ∧ t.cart = s.cart ∧ t.cfg = s.cfg

/-- The sprite search (R425), done in the first dot of a visible line: the selected entries cover the line, stand in
table order, are at most ten, and an entry that covers the line is left out only where ten earlier ones are
selected. -/
def Obligations.SpriteSearch : Prop :=
  ∀ s : State, s.ppu.ly.toNat < 144 → s.ppu.dot = 0 →
    let t := ppuDot s
    let h := if s.ppu.lcdc.getLsbD 2 then 16 else 8
    let y := fun i => (Cells.read s.ppu.oam (4 * i)).toNat
    let covers := fun i => i < 40 ∧ y i ≤ s.ppu.ly.toNat + 16 ∧ s.ppu.ly.toNat + 16 < y i + h
    t.ppu.mode = .search ∧ t.ppu.lineSprites.length ≤ 10 ∧ t.ppu.lineSprites.Pairwise (· < ·) ∧
    (∀ i ∈ t.ppu.lineSprites, covers i) ∧
    (∀ i, covers i → i ∉ t.ppu.lineSprites →
      t.ppu.lineSprites.length = 10 ∧ ∀ j ∈ t.ppu.lineSprites, j < i)

/-- Merging a sprite row into the queue (R429): a live slot takes the sprite pixel exactly when no sprite holds it, the
pixel is not 0, and the sprite has no background priority or the slot's colour is 0; every other slot is kept,
and pixels beyond the live slots are lost. -/
def Obligations.SpriteMerge : Prop :=
  ∀ (attr : Byte) (q : List Pixel) (row : List (BitVec 2)),
    (mergeRow attr q row).length = q.length ∧
    ∀ (j : Nat) (s : Pixel), q[j]? = some s →
      (∀ px, row[j]? = some px → s.sp = false → px ≠ 0#2 → attr.getLsbD 7 = false ∨ s.color = 0#2 →
        (mergeRow attr q row)[j]? =
          some { color := px, sp := true, prio := attr.getLsbD 7, pal := attr.getLsbD 4 }) ∧
      (∀ px, row[j]? = some px → s.sp = true ∨ px = 0#2 ∨ (attr.getLsbD 7 = true ∧ s.color ≠ 0#2) →
        (mergeRow attr q row)[j]? = some s) ∧
      (row[j]? = none → (mergeRow attr q row)[j]? = some s)

/-- The pixel popped in a dot (R434): none from an empty queue; a discarded one writes nothing; otherwise the
framebuffer cell of the line and column gets the slot's colour through the palette of its owner, the column
advances, and column 160 enters mode 0. No other cell changes. -/
def Obligations.PixelOutput : Prop :=
  ∀ p : Ppu, Cells.wf p.fb →
    (p.queue = [] → p.popPixel = p) ∧
    (∀ s q, p.queue = s :: q → 0 < p.discard →
      p.popPixel = { p with queue := q, discard := p.discard - 1 }) ∧
    (∀ s q, p.queue = s :: q → p.discard = 0 →
      let pal := if s.sp = false then p.bgp else if s.pal = true then p.obp1 else p.obp0
      let cell := 160 * p.ly.toNat + p.col
      let t := p.popPixel
      Cells.read t.fb cell = BitVec.ofNat 2 (pal.toNat >>> (2 * s.color.toNat)) ∧
      (∀ k, k ≠ cell → Cells.read t.fb k = Cells.read p.fb k) ∧
      t.col = p.col + 1 ∧ (p.col + 1 = 160 → t.mode = .hblank) ∧ (p.col + 1 ≠ 160 → t.mode = p.mode) ∧
      t = { p with queue := q, fb := t.fb, col := t.col, mode := t.mode })

/-- The address of a tile row (R433): unsigned from `0x0000` with `LCDC[4] = 1`, signed from `0x1000` otherwise; with
`frow` at most 7 both plane bytes lie inside video RAM. -/
def Obligations.TileRowAddresses : Prop :=
  ∀ p : Ppu,
    (p.lcdc.getLsbD 4 = true → p.tileRowAddr = 16 * p.tileId.toNat + 2 * p.frow) ∧
    (p.lcdc.getLsbD 4 = false → (p.tileRowAddr : Int) = 0x1000 + 16 * p.tileId.toInt + 2 * p.frow) ∧
    (p.frow ≤ 7 → p.tileRowAddr + 1 < 0x2000)

/-- The modes of a frame keep their places (R424 to R436): on a visible line mode 2 after the dots 0 to 79, then mode 3
or 0; mode 1 from the first dot of line 144 to the end of line 153. -/
def Obligations.ModeSequence : Prop :=
  ∀ s t : State, ScanInv s.ppu → ModeInv s.ppu → step s = .next t → ModeInv t.ppu

/-- Mode 3 always ends well before the line does (R435): the fetcher runs in step with the queue in every step, and
from the dot with index 284 on a visible line is in mode 0, whatever the program writes meanwhile. -/
def Obligations.DrawingEndsInTime : Prop :=
  (∀ s t : State, ScanInv s.ppu → ModeInv s.ppu → DrawInv s.ppu → step s = .next t → DrawInv t.ppu) ∧
  (∀ p : Ppu, ScanInv p → ModeInv p → DrawInv p → p.ly.toNat < 144 → 284 ≤ p.dot → p.mode = .hblank)

/-! ## Reset, invariants, the host's operations -/

/-- Power-up (70_reset_and_hazards.md R460, 60_exceptions.md R441): every register, latch and counter is at the value of the
record `RESET`, whichever it is (00_scope.md R7), the cartridge and the parameters are as given, and the memories hold
whatever `INIT_MEM` holds; and the values that the spec gives for `RESET` are those of the table of R460 (10_state.md
R27), as the machine itself shows them. -/
def Obligations.PowerUpValues : Prop :=
  (∀ (cfg : Config) (r : ResetRecord) (variant : Variant) (romBanks ramBanks : Nat) (image : Memory) (m : InitMem),
    let s := State.powerUp cfg r variant romBanks ramBanks image m
    s.cpu = r.cpu ∧
    [s.bus.ie, s.bus.div, s.bus.tima, s.bus.tma, s.bus.boot] = [r.bus.ie, r.bus.div, r.bus.tima, r.bus.tma, r.bus.boot] ∧
    s.bus.iflag = r.bus.iflag ∧ s.bus.joypSel = r.bus.joypSel ∧ s.bus.buttons = r.bus.buttons ∧ s.bus.tac = r.bus.tac ∧
    s.bus.invalid = r.bus.invalid ∧ s.bus.tick = r.bus.tick ∧
    [s.ppu.lcdc, s.ppu.scy, s.ppu.scx, s.ppu.ly, s.ppu.lyc, s.ppu.dma, s.ppu.bgp, s.ppu.obp0, s.ppu.obp1, s.ppu.wy,
      s.ppu.wx, s.ppu.tileId, s.ppu.lo, s.ppu.hi] =
      [r.ppu.lcdc, r.ppu.scy, r.ppu.scx, r.ppu.ly, r.ppu.lyc, r.ppu.dma, r.ppu.bgp, r.ppu.obp0, r.ppu.obp1, r.ppu.wy,
        r.ppu.wx, r.ppu.tileId, r.ppu.lo, r.ppu.hi] ∧
    [s.ppu.dot, s.ppu.frameBudget, s.ppu.col, s.ppu.discard, s.ppu.ph, s.ppu.fx, s.ppu.frow] =
      [r.ppu.dot, r.ppu.frameBudget, r.ppu.col, r.ppu.discard, r.ppu.ph, r.ppu.fx, r.ppu.frow] ∧
    s.ppu.statEn = r.ppu.statEn ∧ s.ppu.coincidence = r.ppu.coincidence ∧ s.ppu.mode = r.ppu.mode ∧
    s.ppu.winActive = r.ppu.winActive ∧ s.ppu.lineSprites = r.ppu.lineSprites ∧ s.ppu.queue = r.ppu.queue ∧
    (variant = .direct → s.cart.ctrl = .direct) ∧ (variant = .banked → s.cart.ctrl = .banked r.bank) ∧
    s.cart.rom = image ∧ s.cart.romBanks = romBanks ∧ s.cart.ramBanks = ramBanks ∧
    s.bus.wram = m.wram ∧ s.bus.hram = m.hram ∧ s.ppu.vram = m.vram ∧ s.ppu.oam = m.oam ∧
    s.cart.xram = m.xram ∧ s.ppu.fb = m.fb ∧ s.cfg = cfg) ∧
  (∀ (cfg : Config) (variant : Variant) (romBanks ramBanks : Nat) (image : Memory) (m : InitMem),
    let s := State.powerUp cfg ResetRecord.spec variant romBanks ramBanks image m
    [s.cpu.a, s.cpu.f, s.cpu.b, s.cpu.c, s.cpu.d, s.cpu.e, s.cpu.h, s.cpu.l] =
      [0x01#8, 0xB0#8, 0x00#8, 0x13#8, 0x00#8, 0xD8#8, 0x01#8, 0x4D#8] ∧
    s.cpu.sp = 0xFFFE#16 ∧ s.cpu.pc = 0x0100#16 ∧ s.cpu.wait = 0 ∧ s.bus.tick = 0 ∧
    [s.cpu.ime, s.cpu.halted, s.cpu.stopped, s.cpu.haltBug, s.bus.invalid] = List.replicate 5 false ∧
    [s.bus.ie, s.bus.div, s.bus.tima, s.bus.tma] = List.replicate 4 0x00#8 ∧ s.bus.boot = 0x01#8 ∧
    busRead s 0xFF0F#16 = 0xE0#8 ∧ busRead s 0xFF00#16 = 0xCF#8 ∧ busRead s 0xFF07#16 = 0xF8#8 ∧
    busRead s 0xFF40#16 = 0x91#8 ∧ busRead s 0xFF41#16 = 0x80#8 ∧
    [s.ppu.scy, s.ppu.scx, s.ppu.ly, s.ppu.lyc, s.ppu.wy, s.ppu.wx] = List.replicate 6 0x00#8 ∧
    [s.ppu.dma, s.ppu.bgp, s.ppu.obp0, s.ppu.obp1] = [0xFF#8, 0xFC#8, 0xFF#8, 0xFF#8] ∧
    [s.ppu.dot, s.ppu.col, s.ppu.discard, s.ppu.ph, s.ppu.fx, s.ppu.frow] = List.replicate 6 0 ∧
    [s.ppu.tileId, s.ppu.lo, s.ppu.hi] = List.replicate 3 0x00#8 ∧
    s.ppu.winActive = false ∧ s.ppu.mode = .hblank ∧ s.ppu.frameBudget = 70224 ∧ s.ppu.lineSprites = [] ∧
    s.ppu.queue = [] ∧ (∀ x, s.bus.buttons.level x = false) ∧
    (variant = .banked → s.cart.ctrl = .banked { ramEnable := false, bank5 := 1#5, bank2 := 0#2, mode := false }))

/-- The invariants hold right after reset, and of every power-up whose `RESET` is legal, whose memories are in canonical
form and within their sizes, with at least two ROM banks (R460, 60_exceptions.md R441); the `RESET` of the spec is
legal. -/
def Obligations.PowerUpMeetsInvariants : Prop :=
  (State.reset.Inv ∧ ModeInv State.reset.ppu ∧ DrawInv State.reset.ppu) ∧ ResetRecord.spec.Legal ∧
  ∀ (cfg : Config) (r : ResetRecord) (variant : Variant) (romBanks ramBanks : Nat) (image : Memory) (m : InitMem),
    let s := State.powerUp cfg r variant romBanks ramBanks image m
    r.Legal → 2 ≤ romBanks → MemoryInv s → s.Inv ∧ ModeInv s.ppu ∧ DrawInv s.ppu

/-- Every step keeps the invariant of the machine's states: the low nibble of `F` is zero (10_state.md R22), `wait` is at
most 23 (R33), `halt_bug` implies `IME = 0` (47_system.md R341), every memory is in canonical form and within its
size, the scan and the queue are in their ranges (R52, R57 to R59), and `bank5` is never 0 (R64). -/
def Obligations.StepKeepsInvariant : Prop :=
  ∀ s t : State, s.Inv → step s = .next t → t.Inv

/-- An instruction of cost `c` occupies exactly `c` ticks: all its effects in the first, then idle ticks
(60_exceptions.md R401, R444). Where the first step leaves a running machine, `RunInstruction` returns after the
ticks owed, with the CPU as the first step left it but for `wait`. -/
def Obligations.RunInstructionTakesItsCost : Prop :=
  ∀ (s t : State) (fuel : Nat), step s = .next t → s.bus.invalid = false → t.bus.invalid = false →
    t.cpu.halted = false → t.cpu.stopped = false → t.cpu.wait < fuel →
    ∃ u, runInstruction fuel s = .success u ∧ u.bus.tick = s.bus.tick + t.cpu.wait + 1 ∧
      u.cpu = { t.cpu with wait := 0 }

/-- `RunFrame` always terminates (60_exceptions.md R446): it reports success after exactly as many steps as the frame
budget had left, or failure once the invalid flag is set. -/
def Obligations.RunFrameTerminates : Prop :=
  ∀ s : State,
    (∃ t, runFrame s = .success t ∧ t.ppu.frameBudget = 0 ∧ t.bus.invalid = false ∧
      t.bus.tick = s.bus.tick + (if s.ppu.frameBudget = 0 then 70224 else s.ppu.frameBudget)) ∨
    (∃ t, runFrame s = .failure t .invalidOpcode ∧ t.bus.invalid = true)
end

