-- ==== Sys2Proof/Laws/State.lean ====
section
/-! SUPPORT. For each update of the state, what each block and register reads afterwards, true by `rfl`, so that no later
proof unfolds a record update; and that bus reads look at the bus, pixel processor, cartridge and parameters
only. -/

namespace Sys2Proof.Machine

/-! ## Words and bytes -/

/-- A word is its two bytes (10_state.md R21). -/
@[simp] theorem mkWord_hi_lo (v : Word) : mkWord (hiByte v) (loByte v) = v := by
  unfold mkWord hiByte loByte
  ext i hi
  rw [BitVec.getElem_append]
  split
  · simp [*]
  · simp [show 8 + (i - 8) = i by omega, BitVec.getLsbD_eq_getElem hi]

@[simp] theorem hiByte_mkWord (h l : Byte) : hiByte (mkWord h l) = h := by
  unfold mkWord hiByte
  ext i hi
  have := BitVec.getLsbD_append (x := h) (y := l) (i := 8 + i)
  simp at this
  simpa [BitVec.getLsbD_eq_getElem hi, hi] using this

@[simp] theorem loByte_mkWord (h l : Byte) : loByte (mkWord h l) = l := by
  unfold mkWord loByte
  ext i hi
  have := BitVec.getLsbD_append (x := h) (y := l) (i := i)
  simp [hi] at this
  simpa [BitVec.getLsbD_eq_getElem hi, hi] using this

/-- The offset of `e8` operands, as 00_scope.md R10 writes it. -/
theorem sext16_eq (e : Byte) :
    sext16 e = if e.toNat < 0x80 then e.zeroExtend 16 else e.zeroExtend 16 + 0xFF00#16 := by
  revert e
  decide

/-! ## `setBc` -/

@[simp] theorem State.setBc_cpu (s : State) (v : Word) : (s.setBc v).cpu = { s.cpu with b := hiByte v, c := loByte v } := rfl

@[simp] theorem State.setBc_bus (s : State) (v : Word) : (s.setBc v).bus = s.bus := rfl

@[simp] theorem State.setBc_ppu (s : State) (v : Word) : (s.setBc v).ppu = s.ppu := rfl

@[simp] theorem State.setBc_cart (s : State) (v : Word) : (s.setBc v).cart = s.cart := rfl

@[simp] theorem State.setBc_cfg (s : State) (v : Word) : (s.setBc v).cfg = s.cfg := rfl

theorem State.setBc_reg (s : State) (v : Word) (r : Reg) :
    (s.setBc v).reg r = if r = .b then hiByte v else if r = .c then loByte v else s.reg r := by
  cases r <;> rfl

@[simp] theorem busRead_setBc (s : State) (v : Word) (y : Word) : busRead (s.setBc v) y = busRead s y := rfl

/-! ## `setDe` -/

@[simp] theorem State.setDe_cpu (s : State) (v : Word) : (s.setDe v).cpu = { s.cpu with d := hiByte v, e := loByte v } := rfl

@[simp] theorem State.setDe_bus (s : State) (v : Word) : (s.setDe v).bus = s.bus := rfl

@[simp] theorem State.setDe_ppu (s : State) (v : Word) : (s.setDe v).ppu = s.ppu := rfl

@[simp] theorem State.setDe_cart (s : State) (v : Word) : (s.setDe v).cart = s.cart := rfl

@[simp] theorem State.setDe_cfg (s : State) (v : Word) : (s.setDe v).cfg = s.cfg := rfl

theorem State.setDe_reg (s : State) (v : Word) (r : Reg) :
    (s.setDe v).reg r = if r = .d then hiByte v else if r = .e then loByte v else s.reg r := by
  cases r <;> rfl

@[simp] theorem busRead_setDe (s : State) (v : Word) (y : Word) : busRead (s.setDe v) y = busRead s y := rfl

/-! ## `setHl` -/

@[simp] theorem State.setHl_cpu (s : State) (v : Word) : (s.setHl v).cpu = { s.cpu with h := hiByte v, l := loByte v } := rfl

@[simp] theorem State.setHl_bus (s : State) (v : Word) : (s.setHl v).bus = s.bus := rfl

@[simp] theorem State.setHl_ppu (s : State) (v : Word) : (s.setHl v).ppu = s.ppu := rfl

@[simp] theorem State.setHl_cart (s : State) (v : Word) : (s.setHl v).cart = s.cart := rfl

@[simp] theorem State.setHl_cfg (s : State) (v : Word) : (s.setHl v).cfg = s.cfg := rfl

theorem State.setHl_reg (s : State) (v : Word) (r : Reg) :
    (s.setHl v).reg r = if r = .h then hiByte v else if r = .l then loByte v else s.reg r := by
  cases r <;> rfl

@[simp] theorem busRead_setHl (s : State) (v : Word) (y : Word) : busRead (s.setHl v) y = busRead s y := rfl

/-! ## `setAf` -/

@[simp] theorem State.setAf_cpu (s : State) (v : Word) : (s.setAf v).cpu = { s.cpu with a := hiByte v, f := loByte v &&& 0xF0#8 } := rfl

@[simp] theorem State.setAf_bus (s : State) (v : Word) : (s.setAf v).bus = s.bus := rfl

@[simp] theorem State.setAf_ppu (s : State) (v : Word) : (s.setAf v).ppu = s.ppu := rfl

@[simp] theorem State.setAf_cart (s : State) (v : Word) : (s.setAf v).cart = s.cart := rfl

@[simp] theorem State.setAf_cfg (s : State) (v : Word) : (s.setAf v).cfg = s.cfg := rfl

theorem State.setAf_reg (s : State) (v : Word) (r : Reg) :
    (s.setAf v).reg r = if r = .a then hiByte v else s.reg r := by
  cases r <;> rfl

@[simp] theorem busRead_setAf (s : State) (v : Word) (y : Word) : busRead (s.setAf v) y = busRead s y := rfl

/-! ## `setSp` -/

@[simp] theorem State.setSp_cpu (s : State) (v : Word) : (s.setSp v).cpu = { s.cpu with sp := v } := rfl

@[simp] theorem State.setSp_bus (s : State) (v : Word) : (s.setSp v).bus = s.bus := rfl

@[simp] theorem State.setSp_ppu (s : State) (v : Word) : (s.setSp v).ppu = s.ppu := rfl

@[simp] theorem State.setSp_cart (s : State) (v : Word) : (s.setSp v).cart = s.cart := rfl

@[simp] theorem State.setSp_cfg (s : State) (v : Word) : (s.setSp v).cfg = s.cfg := rfl

@[simp] theorem State.setSp_reg (s : State) (v : Word) (r : Reg) : (s.setSp v).reg r = s.reg r := by
  cases r <;> rfl

@[simp] theorem busRead_setSp (s : State) (v : Word) (y : Word) : busRead (s.setSp v) y = busRead s y := rfl

/-! ## `setPc` -/

@[simp] theorem State.setPc_cpu (s : State) (v : Word) : (s.setPc v).cpu = { s.cpu with pc := v } := rfl

@[simp] theorem State.setPc_bus (s : State) (v : Word) : (s.setPc v).bus = s.bus := rfl

@[simp] theorem State.setPc_ppu (s : State) (v : Word) : (s.setPc v).ppu = s.ppu := rfl

@[simp] theorem State.setPc_cart (s : State) (v : Word) : (s.setPc v).cart = s.cart := rfl

@[simp] theorem State.setPc_cfg (s : State) (v : Word) : (s.setPc v).cfg = s.cfg := rfl

@[simp] theorem State.setPc_reg (s : State) (v : Word) (r : Reg) : (s.setPc v).reg r = s.reg r := by
  cases r <;> rfl

@[simp] theorem busRead_setPc (s : State) (v : Word) (y : Word) : busRead (s.setPc v) y = busRead s y := rfl

/-! ## `setIme` -/

@[simp] theorem State.setIme_cpu (s : State) (v : Bool) : (s.setIme v).cpu = { s.cpu with ime := v } := rfl

@[simp] theorem State.setIme_bus (s : State) (v : Bool) : (s.setIme v).bus = s.bus := rfl

@[simp] theorem State.setIme_ppu (s : State) (v : Bool) : (s.setIme v).ppu = s.ppu := rfl

@[simp] theorem State.setIme_cart (s : State) (v : Bool) : (s.setIme v).cart = s.cart := rfl

@[simp] theorem State.setIme_cfg (s : State) (v : Bool) : (s.setIme v).cfg = s.cfg := rfl

@[simp] theorem State.setIme_reg (s : State) (v : Bool) (r : Reg) : (s.setIme v).reg r = s.reg r := by
  cases r <;> rfl

@[simp] theorem busRead_setIme (s : State) (v : Bool) (y : Word) : busRead (s.setIme v) y = busRead s y := rfl

/-! ## `setWait` -/

@[simp] theorem State.setWait_cpu (s : State) (n : Nat) : (s.setWait n).cpu = { s.cpu with wait := n } := rfl

@[simp] theorem State.setWait_bus (s : State) (n : Nat) : (s.setWait n).bus = s.bus := rfl

@[simp] theorem State.setWait_ppu (s : State) (n : Nat) : (s.setWait n).ppu = s.ppu := rfl

@[simp] theorem State.setWait_cart (s : State) (n : Nat) : (s.setWait n).cart = s.cart := rfl

@[simp] theorem State.setWait_cfg (s : State) (n : Nat) : (s.setWait n).cfg = s.cfg := rfl

@[simp] theorem State.setWait_reg (s : State) (n : Nat) (r : Reg) : (s.setWait n).reg r = s.reg r := by
  cases r <;> rfl

@[simp] theorem busRead_setWait (s : State) (n : Nat) (y : Word) : busRead (s.setWait n) y = busRead s y := rfl

/-! ## `setFlags` -/

@[simp] theorem State.setFlags_cpu (s : State) (x : Flags) : (s.setFlags x).cpu = { s.cpu with f := x.pack } := rfl

@[simp] theorem State.setFlags_bus (s : State) (x : Flags) : (s.setFlags x).bus = s.bus := rfl

@[simp] theorem State.setFlags_ppu (s : State) (x : Flags) : (s.setFlags x).ppu = s.ppu := rfl

@[simp] theorem State.setFlags_cart (s : State) (x : Flags) : (s.setFlags x).cart = s.cart := rfl

@[simp] theorem State.setFlags_cfg (s : State) (x : Flags) : (s.setFlags x).cfg = s.cfg := rfl

@[simp] theorem State.setFlags_reg (s : State) (x : Flags) (r : Reg) : (s.setFlags x).reg r = s.reg r := by
  cases r <;> rfl

@[simp] theorem busRead_setFlags (s : State) (x : Flags) (y : Word) : busRead (s.setFlags x) y = busRead s y := rfl

/-! ## Pairs after updates -/

@[simp] theorem State.setHl_hl (s : State) (v : Word) : (s.setHl v).hl = v := mkWord_hi_lo v

@[simp] theorem State.setBc_bc (s : State) (v : Word) : (s.setBc v).bc = v := mkWord_hi_lo v

@[simp] theorem State.setDe_de (s : State) (v : Word) : (s.setDe v).de = v := mkWord_hi_lo v

@[simp] theorem State.setWait_hl (s : State) (n : Nat) : (s.setWait n).hl = s.hl := rfl

@[simp] theorem State.setFlags_hl (s : State) (x : Flags) : (s.setFlags x).hl = s.hl := rfl

@[simp] theorem readPair_setWait (s : State) (p : Pair) (n : Nat) : readPair (s.setWait n) p = readPair s p := by
  cases p <;> rfl

/-- What a pair is written with is what it reads as (R21). -/
@[simp] theorem readPair_writePair (s : State) (p : Pair) (v : Word) : readPair (writePair s p v) p = v := by
  cases p
  case sp => rfl
  all_goals exact mkWord_hi_lo v

/-! ## `setReg` -/

@[simp] theorem State.setReg_f (s : State) (r : Reg) (v : Byte) : (s.setReg r v).cpu.f = s.cpu.f := by
  cases r <;> rfl

@[simp] theorem State.setReg_sp (s : State) (r : Reg) (v : Byte) : (s.setReg r v).cpu.sp = s.cpu.sp := by
  cases r <;> rfl

@[simp] theorem State.setReg_pc (s : State) (r : Reg) (v : Byte) : (s.setReg r v).cpu.pc = s.cpu.pc := by
  cases r <;> rfl

@[simp] theorem State.setReg_ime (s : State) (r : Reg) (v : Byte) : (s.setReg r v).cpu.ime = s.cpu.ime := by
  cases r <;> rfl

@[simp] theorem State.setReg_halted (s : State) (r : Reg) (v : Byte) : (s.setReg r v).cpu.halted = s.cpu.halted := by
  cases r <;> rfl

@[simp] theorem State.setReg_stopped (s : State) (r : Reg) (v : Byte) : (s.setReg r v).cpu.stopped = s.cpu.stopped := by
  cases r <;> rfl

@[simp] theorem State.setReg_wait (s : State) (r : Reg) (v : Byte) : (s.setReg r v).cpu.wait = s.cpu.wait := by
  cases r <;> rfl

@[simp] theorem State.setReg_haltBug (s : State) (r : Reg) (v : Byte) : (s.setReg r v).cpu.haltBug = s.cpu.haltBug := by
  cases r <;> rfl

@[simp] theorem State.setReg_eiPending (s : State) (r : Reg) (v : Byte) : (s.setReg r v).cpu.eiPending = s.cpu.eiPending := by
  cases r <;> rfl

@[simp] theorem State.setReg_bus (s : State) (r : Reg) (v : Byte) : (s.setReg r v).bus = s.bus := by
  cases r <;> rfl

@[simp] theorem State.setReg_ppu (s : State) (r : Reg) (v : Byte) : (s.setReg r v).ppu = s.ppu := by
  cases r <;> rfl

@[simp] theorem State.setReg_cart (s : State) (r : Reg) (v : Byte) : (s.setReg r v).cart = s.cart := by
  cases r <;> rfl

@[simp] theorem State.setReg_cfg (s : State) (r : Reg) (v : Byte) : (s.setReg r v).cfg = s.cfg := by
  cases r <;> rfl

theorem State.setReg_reg (s : State) (r x : Reg) (v : Byte) :
    (s.setReg r v).reg x = if x = r then v else s.reg x := by
  cases r <;> cases x <;> rfl

@[simp] theorem State.setReg_reg_self (s : State) (r : Reg) (v : Byte) : (s.setReg r v).reg r = v := by
  cases r <;> rfl

@[simp] theorem busRead_setReg (s : State) (r : Reg) (v : Byte) (x : Word) :
    busRead (s.setReg r v) x = busRead s x := by
  cases r <;> rfl

/-! ## Fetch, tick counter, pop -/

@[simp] theorem fetched_cpu (s : State) (len : Nat) :
    (fetched s len).cpu =
      { s.cpu with pc := fetchNext s + BitVec.ofNat 16 (len - 1), haltBug := false } := rfl

@[simp] theorem fetched_bus (s : State) (len : Nat) : (fetched s len).bus = s.bus := rfl

@[simp] theorem fetched_ppu (s : State) (len : Nat) : (fetched s len).ppu = s.ppu := rfl

@[simp] theorem fetched_cart (s : State) (len : Nat) : (fetched s len).cart = s.cart := rfl

@[simp] theorem fetched_cfg (s : State) (len : Nat) : (fetched s len).cfg = s.cfg := rfl

@[simp] theorem countTick_cpu (s : State) : (countTick s).cpu = s.cpu := rfl

@[simp] theorem countTick_bus (s : State) : (countTick s).bus = { s.bus with tick := s.bus.tick + 1 } := rfl

@[simp] theorem countTick_ppu (s : State) : (countTick s).ppu = s.ppu := rfl

@[simp] theorem countTick_cart (s : State) : (countTick s).cart = s.cart := rfl

@[simp] theorem countTick_cfg (s : State) : (countTick s).cfg = s.cfg := rfl

@[simp] theorem popState_cpu (s : State) : (popState s).cpu = { s.cpu with sp := s.cpu.sp + 2#16 } := rfl

@[simp] theorem popState_bus (s : State) : (popState s).bus = s.bus := rfl

@[simp] theorem popState_ppu (s : State) : (popState s).ppu = s.ppu := rfl

@[simp] theorem popState_cart (s : State) : (popState s).cart = s.cart := rfl

@[simp] theorem popState_cfg (s : State) : (popState s).cfg = s.cfg := rfl

@[simp] theorem popState_reg (s : State) (r : Reg) : (popState s).reg r = s.reg r := by
  cases r <;> rfl

/-! ## Power-up -/

section PowerUp
variable (cfg : Config) (r : ResetRecord) (variant : Variant) (romBanks ramBanks : Nat) (image : Memory) (m : InitMem)

@[simp] theorem powerUp_cpu : (State.powerUp cfg r variant romBanks ramBanks image m).cpu = r.cpu := rfl

@[simp] theorem powerUp_bus : (State.powerUp cfg r variant romBanks ramBanks image m).bus = Bus.reset r.bus m := rfl

@[simp] theorem powerUp_ppu : (State.powerUp cfg r variant romBanks ramBanks image m).ppu = Ppu.reset r.ppu m := rfl

@[simp] theorem powerUp_cart : (State.powerUp cfg r variant romBanks ramBanks image m).cart =
    { ctrl := variant.controller r.bank, romBanks, ramBanks, rom := image, xram := m.xram } := rfl

@[simp] theorem powerUp_cfg : (State.powerUp cfg r variant romBanks ramBanks image m).cfg = cfg := rfl

end PowerUp

/-! ## What a bus read looks at -/

/-- A bus read depends on the CPU in no way. -/
theorem busRead_congr {s t : State} (hb : t.bus = s.bus) (hp : t.ppu = s.ppu) (hc : t.cart = s.cart)
    (hg : t.cfg = s.cfg) (a : Word) : busRead t a = busRead s a := by
  simp only [busRead, hb, hp, hc, hg]

/-- The pending set depends on the bus only. -/
theorem pend_congr {s t : State} (hb : t.bus = s.bus) : pend t = pend s := by
  simp only [pend, hb]

end Sys2Proof.Machine
end

