-- ==== Sys2Proof/Laws/Memory.lean ====
section
/-! SUPPORT. The laws of the sparse arrays (a read after a write, the canonical form kept, equal contents mean equal
lists) and that every memory operation of the machine keeps every memory in canonical form. -/

namespace Sys2Proof.Machine

/-! ## One array -/

theorem Cells.read_nil {w : Nat} (i : Nat) : Cells.read ([] : Cells w) i = Cells.unlisted := rfl

theorem Cells.read_cons {w : Nat} (k : Nat) (x : BitVec w) (m : Cells w) (i : Nat) :
    Cells.read ((k, x) :: m) i =
      if i < k then Cells.unlisted else if i = k then x else Cells.read m i := rfl

theorem Cells.wf_nil {w : Nat} : Cells.wf ([] : Cells w) := ⟨.nil, by simp⟩

theorem Cells.wf_cons {w : Nat} (k : Nat) (x : BitVec w) (m : Cells w) :
    Cells.wf ((k, x) :: m) ↔ (∀ c ∈ m, k < c.1) ∧ x ≠ Cells.unlisted ∧ Cells.wf m := by
  simp only [Cells.wf, List.pairwise_cons, List.forall_mem_cons]
  tauto

/-- Below the first listed index an array reads as unlisted. -/
theorem Cells.read_below {w : Nat} (m : Cells w) (i : Nat) (h : ∀ c ∈ m, i < c.1) :
    Cells.read m i = Cells.unlisted := by
  cases m with
  | nil => rfl
  | cons c m =>
    obtain ⟨k, x⟩ := c
    have hk : i < k := h (k, x) (by simp)
    simp [Cells.read_cons, hk]

theorem Cells.read_listed {w : Nat} (i : Nat) (v : BitVec w) (m : Cells w) (h : ∀ c ∈ m, i < c.1) (j : Nat) :
    Cells.read (Cells.listed i v m) j = if j = i then v else Cells.read m j := by
  unfold Cells.listed
  split_ifs with hv hj hj
  · subst hj; rw [hv]; exact Cells.read_below m _ h
  · rfl
  · simp [Cells.read_cons, hj]
  · rw [Cells.read_cons]
    split_ifs with hlt
    · exact (Cells.read_below m j fun c hc => lt_trans hlt (h c hc)).symm
    · rfl

/-- What a write stores is read back, and no other cell changes. -/
theorem Cells.read_write {w : Nat} (m : Cells w) (hm : Cells.wf m) (i : Nat) (v : BitVec w) (j : Nat) :
    Cells.read (Cells.write m i v) j = if j = i then v else Cells.read m j := by
  induction m with
  | nil => exact Cells.read_listed i v [] (by simp) j
  | cons c m ih =>
    obtain ⟨k, x⟩ := c
    obtain ⟨hk, -, hm⟩ := (Cells.wf_cons k x m).1 hm
    rcases lt_trichotomy i k with h | h | h
    · simp only [Cells.write, if_pos h]
      refine Cells.read_listed i v _ ?_ j
      simp only [List.forall_mem_cons]
      exact ⟨h, fun c hc => lt_trans h (hk c hc)⟩
    · subst h
      simp only [Cells.write, lt_irrefl, if_false, if_true]
      rw [Cells.read_listed i v m hk j, Cells.read_cons]
      split_ifs with h1 h2 <;> try rfl
      exact Cells.read_below m j fun c hc => lt_trans h2 (hk c hc)
    · simp only [Cells.write, if_neg (not_lt_of_gt h), if_neg (ne_of_gt h)]
      rw [Cells.read_cons, ih hm, Cells.read_cons]
      split_ifs <;> first | rfl | omega

theorem Cells.mem_listed {w : Nat} {i : Nat} {v : BitVec w} {m : Cells w} {c : Nat × BitVec w}
    (h : c ∈ Cells.listed i v m) : c = (i, v) ∨ c ∈ m := by
  unfold Cells.listed at h
  split_ifs at h
  · exact .inr h
  · simpa using h

theorem Cells.mem_write {w : Nat} {i : Nat} {v : BitVec w} {m : Cells w} {c : Nat × BitVec w}
    (h : c ∈ Cells.write m i v) : c = (i, v) ∨ c ∈ m := by
  induction m with
  | nil => exact Cells.mem_listed h
  | cons d m ih =>
    obtain ⟨k, x⟩ := d
    simp only [Cells.write] at h
    split_ifs at h
    · exact Cells.mem_listed h
    · exact (Cells.mem_listed h).imp id (List.mem_cons_of_mem _)
    · rcases List.mem_cons.1 h with h | h
      · exact .inr (h ▸ List.mem_cons_self)
      · exact (ih h).imp id (List.mem_cons_of_mem _)

theorem Cells.listed_wf {w : Nat} (i : Nat) (v : BitVec w) (m : Cells w) (hm : Cells.wf m)
    (h : ∀ c ∈ m, i < c.1) : Cells.wf (Cells.listed i v m) := by
  unfold Cells.listed
  split_ifs with hv
  · exact hm
  · exact (Cells.wf_cons i v m).2 ⟨h, hv, hm⟩

/-- A write keeps the canonical form. -/
theorem Cells.write_wf {w : Nat} (m : Cells w) (hm : Cells.wf m) (i : Nat) (v : BitVec w) :
    Cells.wf (Cells.write m i v) := by
  induction m with
  | nil => exact Cells.listed_wf i v [] hm (by simp)
  | cons c m ih =>
    obtain ⟨k, x⟩ := c
    obtain ⟨hk, hx, hm'⟩ := (Cells.wf_cons k x m).1 hm
    simp only [Cells.write]
    split_ifs with h1 h2
    · refine Cells.listed_wf i v _ hm ?_
      simp only [List.forall_mem_cons]
      exact ⟨h1, fun c hc => lt_trans h1 (hk c hc)⟩
    · exact Cells.listed_wf i v m hm' (by simpa [h2] using hk)
    · refine (Cells.wf_cons k x _).2 ⟨fun c hc => ?_, hx, ih hm'⟩
      rcases Cells.mem_write hc with rfl | hc
      · show k < i; omega
      · exact hk c hc

/-- A write inside an array's size stays inside it. -/
theorem Cells.write_below {w : Nat} (m : Cells w) (size : Nat) (hm : Cells.below m size) (i : Nat)
    (v : BitVec w) (hi : i < size) : Cells.below (Cells.write m i v) size := by
  intro c hc
  rcases Cells.mem_write hc with rfl | hc
  · exact hi
  · exact hm c hc

theorem Cells.write_ok {w : Nat} {m : Cells w} {size : Nat} (hm : Cells.ok m size) {i : Nat}
    (v : BitVec w) (hi : i < size) : Cells.ok (Cells.write m i v) size :=
  ⟨Cells.write_wf m hm.1 i v, Cells.write_below m size hm.2 i v hi⟩

/-- Equal contents are equal data: two canonical arrays that read alike everywhere are the same list. -/
theorem Cells.ext_of_read {w : Nat} (m n : Cells w) (hm : Cells.wf m) (hn : Cells.wf n)
    (h : ∀ i, Cells.read m i = Cells.read n i) : m = n := by
  induction m generalizing n with
  | nil =>
    cases n with
    | nil => rfl
    | cons d n =>
      obtain ⟨k, x⟩ := d
      obtain ⟨-, hx, -⟩ := (Cells.wf_cons k x n).1 hn
      exact absurd (h k).symm (by simpa [Cells.read_cons, Cells.read_nil] using hx)
  | cons c m ih =>
    obtain ⟨k, x⟩ := c
    obtain ⟨hk, hx, hm'⟩ := (Cells.wf_cons k x m).1 hm
    cases n with
    | nil => exact absurd (h k) (by simpa [Cells.read_cons, Cells.read_nil] using hx)
    | cons d n =>
      obtain ⟨l, y⟩ := d
      obtain ⟨hl, hy, hn'⟩ := (Cells.wf_cons l y n).1 hn
      have hkl : k = l := by
        rcases lt_trichotomy k l with hlt | heq | hlt
        · exact absurd (h k) (by simpa [Cells.read_cons, hlt] using hx)
        · exact heq
        · exact absurd (h l).symm (by simpa [Cells.read_cons, hlt] using hy)
      subst hkl
      have hxy : x = y := by simpa [Cells.read_cons] using h k
      subst hxy
      congr 1
      refine ih n hm' hn' fun i => ?_
      rcases lt_trichotomy i k with hi | hi | hi
      · rw [Cells.read_below m i fun c hc => lt_trans hi (hk c hc),
          Cells.read_below n i fun c hc => lt_trans hi (hl c hc)]
      · subst hi
        rw [Cells.read_below m _ hk, Cells.read_below n _ hl]
      · have := h i
        simpa [Cells.read_cons, not_lt_of_gt hi, ne_of_gt hi] using this

/-! ## The machine's memory operations -/

theorem Cart.xramMap_lt {c : Cart} {a off : Nat} (h : c.xramMap a = some off) (h1 : 0xA000 ≤ a)
    (h2 : a ≤ 0xBFFF) : off < c.ramBanks * 0x2000 := by
  unfold Cart.xramMap at h
  split_ifs at h with h0
  cases hc : c.ctrl with
  | direct =>
    simp only [hc, Option.some.injEq] at h
    omega
  | banked r =>
    simp only [hc] at h
    split_ifs at h
    simp only [Option.some.injEq] at h
    have : r.ramBank c.ramBanks < c.ramBanks := Nat.mod_lt _ (by omega)
    omega

/-- The cartridge's ROM and bank counts are never written (20_memory.md R121). -/
theorem Cart.write_fixed (c : Cart) (a : Nat) (v : Byte) :
    (c.write a v).rom = c.rom ∧ (c.write a v).romBanks = c.romBanks ∧
      (c.write a v).ramBanks = c.ramBanks := by
  unfold Cart.write
  split_ifs <;> split <;> simp

theorem Cart.write_xram_ok {c : Cart} (h : Cells.ok c.xram (c.ramBanks * 0x2000)) (a : Nat) (v : Byte)
    (ha : a ≤ 0xBFFF) : Cells.ok (c.write a v).xram ((c.write a v).ramBanks * 0x2000) := by
  rw [(Cart.write_fixed c a v).2.2]
  unfold Cart.write
  split_ifs with h1
  · split
    · rename_i off hoff
      exact Cells.write_ok h v (Cart.xramMap_lt hoff h1 ha)
    · exact h
  · split <;> exact h

/-- What a register write of the pixel processor can do, once. -/
theorem Ppu.regStore_elim {P : Ppu → Prop} (p : Ppu) (a : Nat) (v : Byte)
    (lcdc : a = 0xFF40 → P { p with lcdc := v })
    (stat : a = 0xFF41 → P { p with statEn := v.extractLsb' 3 4 })
    (scy : a = 0xFF42 → P { p with scy := v }) (scx : a = 0xFF43 → P { p with scx := v })
    (ly : a = 0xFF44 → P p) (lyc : a = 0xFF45 → P { p with lyc := v })
    (dma : a = 0xFF46 → P { p with dma := v }) (bgp : a = 0xFF47 → P { p with bgp := v })
    (obp0 : a = 0xFF48 → P { p with obp0 := v }) (obp1 : a = 0xFF49 → P { p with obp1 := v })
    (wy : a = 0xFF4A → P { p with wy := v })
    (wx : (a < 0xFF40 ∨ 0xFF4A < a) → P { p with wx := v }) : P (p.regStore a v) :=
  iteInduction lcdc fun _ => iteInduction stat fun _ => iteInduction scy fun _ => iteInduction scx fun _ =>
  iteInduction ly fun _ => iteInduction lyc fun _ => iteInduction dma fun _ => iteInduction bgp fun _ =>
  iteInduction obp0 fun _ => iteInduction obp1 fun _ => iteInduction wy fun _ => wx (by omega)

/-- A register write of the pixel processor touches none of its memories. -/
theorem Ppu.regStore_mem (p : Ppu) (a : Nat) (v : Byte) :
    (p.regStore a v).vram = p.vram ∧ (p.regStore a v).oam = p.oam ∧ (p.regStore a v).fb = p.fb := by
  apply Ppu.regStore_elim (P := fun q => q.vram = p.vram ∧ q.oam = p.oam ∧ q.fb = p.fb) <;> intros <;>
    exact ⟨rfl, rfl, rfl⟩

theorem dmaByte_memory {s : State} (h : MemoryInv s) (v : Byte) {k : Nat} (hk : k < 160) :
    MemoryInv (dmaByte v s k) :=
  { h with oam := Cells.write_ok h.oam _ hk }

/-- The DMA copy keeps every memory in canonical form. -/
theorem dmaCopy_memory {s : State} (h : MemoryInv s) (v : Byte) : MemoryInv (dmaCopy v s) := by
  have key : ∀ (ks : List Nat), (∀ k ∈ ks, k < 160) → ∀ s, MemoryInv s →
      MemoryInv (ks.foldl (dmaByte v) s) := by
    intro ks
    induction ks with
    | nil => exact fun _ s h => h
    | cons k ks ih =>
      intro hk s h
      exact ih (fun x hx => hk x (List.mem_cons_of_mem _ hx)) _
        (dmaByte_memory h v (hk k List.mem_cons_self))
  unfold dmaCopy
  exact key _ (fun k hk => List.mem_range.1 hk) s h

theorem regStore_memory {s : State} (h : MemoryInv s) (a : Nat) (v : Byte) :
    MemoryInv { s with ppu := s.ppu.regStore a v } := by
  obtain ⟨h1, h2, h3⟩ := Ppu.regStore_mem s.ppu a v
  exact { h with vram := h1.symm ▸ h.vram, oam := h2.symm ▸ h.oam, fb := h3.symm ▸ h.fb }

/-- What a bus write can do, once: to show a property of the state after it, show it for each owner. -/
theorem busWrite_elim {P : State → Prop} (s : State) (a : Word) (v : Byte)
    (vram : 0x8000 ≤ a.toNat → a.toNat ≤ 0x9FFF → s.ppu.vramVisible = true →
      P { s with ppu.vram := Cells.write s.ppu.vram (a.toNat - 0x8000) v })
    (oam : 0xFE00 ≤ a.toNat → a.toNat ≤ 0xFE9F → s.ppu.oamVisible = true →
      P { s with ppu.oam := Cells.write s.ppu.oam (a.toNat - 0xFE00) v })
    (dma : a.toNat = 0xFF46 → P (dmaCopy v { s with ppu := s.ppu.regStore a.toNat v }))
    (ppuReg : 0xFF40 ≤ a.toNat → a.toNat ≤ 0xFF4B → a.toNat ≠ 0xFF46 →
      P { s with ppu := s.ppu.regStore a.toNat v })
    (cart : a.toNat ≤ 0x7FFF ∨ (0xA000 ≤ a.toNat ∧ a.toNat ≤ 0xBFFF) →
      P { s with cart := s.cart.write a.toNat v })
    (wram : 0xC000 ≤ a.toNat → a.toNat ≤ 0xDFFF →
      P { s with bus.wram := Cells.write s.bus.wram (a.toNat - 0xC000) v })
    (echo : 0xE000 ≤ a.toNat → a.toNat ≤ 0xFDFF →
      P { s with bus.wram := Cells.write s.bus.wram (a.toNat - 0xE000) v })
    (hram : 0xFF80 ≤ a.toNat → a.toNat ≤ 0xFFFE →
      P { s with bus.hram := Cells.write s.bus.hram (a.toNat - 0xFF80) v })
    (joyp : a.toNat = 0xFF00 → P { s with bus.joypSel := v.extractLsb' 4 2 })
    (div : a.toNat = 0xFF04 → P { s with bus.div := 0x00#8 })
    (tima : a.toNat = 0xFF05 → P { s with bus.tima := v })
    (tma : a.toNat = 0xFF06 → P { s with bus.tma := v })
    (tac : a.toNat = 0xFF07 → P { s with bus.tac := v.extractLsb' 0 3 })
    (iflag : a.toNat = 0xFF0F → P { s with bus.iflag := v.extractLsb' 0 5 })
    (boot : a.toNat = 0xFF50 → P { s with bus.boot := v })
    (ie : a.toNat = 0xFFFF → P { s with bus.ie := v })
    (dropped : P s) : P (busWrite s a v) :=
  iteInduction (fun h => iteInduction (vram h.1 h.2) fun _ => dropped) fun _ =>
  iteInduction (fun h => iteInduction (oam h.1 h.2) fun _ => dropped) fun _ =>
  iteInduction (fun h => iteInduction dma (ppuReg h.1 h.2)) fun _ =>
  iteInduction cart fun _ =>
  iteInduction (fun h => wram h.1 h.2) fun _ =>
  iteInduction (fun h => echo h.1 h.2) fun _ =>
  iteInduction (fun h => hram h.1 h.2) fun _ =>
  iteInduction joyp fun _ => iteInduction div fun _ => iteInduction tima fun _ => iteInduction tma fun _ =>
  iteInduction tac fun _ => iteInduction iflag fun _ => iteInduction boot fun _ => iteInduction ie fun _ => dropped

/-- A bus write keeps every memory in canonical form and within its size. -/
theorem busWrite_memory {s : State} (h : MemoryInv s) (a : Word) (v : Byte) : MemoryInv (busWrite s a v) := by
  have same : ∀ b : Bus, b.wram = s.bus.wram → b.hram = s.bus.hram → MemoryInv { s with bus := b } :=
    fun b h1 h2 => { h with wram := h1 ▸ h.wram, hram := h2 ▸ h.hram }
  apply busWrite_elim
  case vram => exact fun _ _ _ => { h with vram := Cells.write_ok h.vram v (by omega) }
  case oam => exact fun _ _ _ => { h with oam := Cells.write_ok h.oam v (by omega) }
  case dma => exact fun _ => dmaCopy_memory (regStore_memory h _ v) v
  case ppuReg => exact fun _ _ _ => regStore_memory h _ v
  case cart =>
    intro ha
    have hf := Cart.write_fixed s.cart a.toNat v
    refine { h with rom := ?_, xram := Cart.write_xram_ok h.xram _ v (by omega) }
    show Cells.ok (s.cart.write a.toNat v).rom ((s.cart.write a.toNat v).romBanks * 0x4000)
    rw [hf.1, hf.2.1]; exact h.rom
  case wram => exact fun _ _ => { h with wram := Cells.write_ok h.wram v (by omega) }
  case echo => exact fun _ _ => { h with wram := Cells.write_ok h.wram v (by omega) }
  case hram => exact fun _ _ => { h with hram := Cells.write_ok h.hram v (by omega) }
  case dropped => exact h
  all_goals exact fun _ => same _ rfl rfl

/-- The memories of a state with other CPU registers are the same memories. -/
theorem MemoryInv.congr {s t : State} (h : MemoryInv s) (hb : t.bus = s.bus) (hp : t.ppu = s.ppu)
    (hc : t.cart = s.cart) : MemoryInv t :=
  { vram := hp ▸ h.vram, oam := hp ▸ h.oam, fb := hp ▸ h.fb, wram := hb ▸ h.wram, hram := hb ▸ h.hram
    rom := hc ▸ h.rom, xram := hc ▸ h.xram }

/-- Reset lists nothing, which is the canonical form of blank memories. -/
theorem reset_memory : MemoryInv State.reset := by
  constructor <;> exact ⟨Cells.wf_nil, by simp [State.reset, State.powerUp, Ppu.reset, Bus.reset, InitMem.blank]⟩

end Sys2Proof.Machine
end

