-- ==== Sys2Proof/Laws/Ops.lean ====
section
/-! SUPPORT. One lemma per shared operation, saying once what it can do: a bus write and the DMA copy, the end of an
instruction, pushes and pops, slots and pairs, interrupt entry and return. -/

namespace Sys2Proof.Machine

/-! ## What no bus write reaches -/

/-- `t` differs from `s` at most where a bus write can reach: the CPU aside, the parameters, the cartridge's image and
bank counts, the invalid flag, the tick counter, the buttons, the scan, the fetcher, the queue and the
framebuffer are the same, and the memories' and the cartridge's invariants are kept. -/
structure StoreKeeps (s t : State) : Prop where
  cfg : t.cfg = s.cfg
  rom : t.cart.rom = s.cart.rom
  romBanks : t.cart.romBanks = s.cart.romBanks
  ramBanks : t.cart.ramBanks = s.cart.ramBanks
  variant : t.cart.ctrl = .direct ↔ s.cart.ctrl = .direct
  invalid : t.bus.invalid = s.bus.invalid
  tick : t.bus.tick = s.bus.tick
  buttons : t.bus.buttons = s.bus.buttons
  fb : t.ppu.fb = s.ppu.fb
  ly : t.ppu.ly = s.ppu.ly
  dot : t.ppu.dot = s.ppu.dot
  mode : t.ppu.mode = s.ppu.mode
  coincidence : t.ppu.coincidence = s.ppu.coincidence
  frameBudget : t.ppu.frameBudget = s.ppu.frameBudget
  col : t.ppu.col = s.ppu.col
  winActive : t.ppu.winActive = s.ppu.winActive
  discard : t.ppu.discard = s.ppu.discard
  lineSprites : t.ppu.lineSprites = s.ppu.lineSprites
  ph : t.ppu.ph = s.ppu.ph
  fx : t.ppu.fx = s.ppu.fx
  tileId : t.ppu.tileId = s.ppu.tileId
  lo : t.ppu.lo = s.ppu.lo
  hi : t.ppu.hi = s.ppu.hi
  frow : t.ppu.frow = s.ppu.frow
  queue : t.ppu.queue = s.ppu.queue
  memory : MemoryInv s → MemoryInv t
  cart : CartInv s.cart → CartInv t.cart

/-- Two states with the same blocks outside the CPU. -/
theorem StoreKeeps.of_eq {s t : State} (hb : t.bus = s.bus) (hp : t.ppu = s.ppu) (hc : t.cart = s.cart)
    (hg : t.cfg = s.cfg) : StoreKeeps s t := by
  constructor <;> first
    | exact hg
    | (rw [hb])
    | (rw [hp])
    | exact congrArg _ hc
    | exact hc ▸ Iff.rfl
    | exact fun h => MemoryInv.congr h hb hp hc
    | exact fun h => hc.symm ▸ h

theorem StoreKeeps.refl (s : State) : StoreKeeps s s := .of_eq rfl rfl rfl rfl

theorem StoreKeeps.trans {s t u : State} (h : StoreKeeps s t) (k : StoreKeeps t u) : StoreKeeps s u := by
  constructor
  case memory => exact fun hs => k.memory (h.memory hs)
  case cart => exact fun hs => k.cart (h.cart hs)
  case cfg => exact k.cfg.trans h.cfg
  case rom => exact k.rom.trans h.rom
  case romBanks => exact k.romBanks.trans h.romBanks
  case ramBanks => exact k.ramBanks.trans h.ramBanks
  case variant => exact k.variant.trans h.variant
  case invalid => exact k.invalid.trans h.invalid
  case tick => exact k.tick.trans h.tick
  case buttons => exact k.buttons.trans h.buttons
  case fb => exact k.fb.trans h.fb
  case ly => exact k.ly.trans h.ly
  case dot => exact k.dot.trans h.dot
  case mode => exact k.mode.trans h.mode
  case coincidence => exact k.coincidence.trans h.coincidence
  case frameBudget => exact k.frameBudget.trans h.frameBudget
  case col => exact k.col.trans h.col
  case winActive => exact k.winActive.trans h.winActive
  case discard => exact k.discard.trans h.discard
  case lineSprites => exact k.lineSprites.trans h.lineSprites
  case ph => exact k.ph.trans h.ph
  case fx => exact k.fx.trans h.fx
  case tileId => exact k.tileId.trans h.tileId
  case lo => exact k.lo.trans h.lo
  case hi => exact k.hi.trans h.hi
  case frow => exact k.frow.trans h.frow
  case queue => exact k.queue.trans h.queue

theorem StoreKeeps.setOam {s t : State} (h : StoreKeeps s t) (m : Memory)
    (hm : MemoryInv s → MemoryInv { t with ppu.oam := m }) : StoreKeeps s { t with ppu.oam := m } :=
  { h with memory := hm }

/-! ## The DMA copy -/

theorem dmaCopy_elim {P : State → Prop} (s : State) (v : Byte) (h : P s)
    (step : ∀ (t : State) (k : Nat), k < 160 → P t → P (dmaByte v t k)) : P (dmaCopy v s) := by
  have key : ∀ (ks : List Nat), (∀ k ∈ ks, k < 160) → ∀ t, P t → P (ks.foldl (dmaByte v) t) := by
    intro ks
    induction ks with
    | nil => exact fun _ t h => h
    | cons k ks ih =>
      exact fun hk t h => ih (fun x hx => hk x (List.mem_cons_of_mem _ hx)) _
        (step t k (hk k List.mem_cons_self) h)
  unfold dmaCopy
  exact key _ (fun k hk => List.mem_range.1 hk) s h

/-- The copy changes the sprite table only. -/
theorem dmaCopy_eq (v : Byte) (s : State) : ∃ m, dmaCopy v s = { s with ppu.oam := m } :=
  dmaCopy_elim (P := fun t => ∃ m, t = { s with ppu.oam := m }) s v ⟨s.ppu.oam, rfl⟩
    (by rintro _ k - ⟨m, rfl⟩; exact ⟨_, rfl⟩)

/-- The copy does not depend on the CPU. -/
theorem dmaCopy_withCpu (v : Byte) (s : State) (c : Cpu) :
    dmaCopy v { s with cpu := c } = { dmaCopy v s with cpu := c } := by
  have key : ∀ (ks : List Nat) (t : State),
      ks.foldl (dmaByte v) { t with cpu := c } = { ks.foldl (dmaByte v) t with cpu := c } := by
    intro ks
    induction ks with
    | nil => exact fun t => rfl
    | cons k ks ih => exact fun t => ih (dmaByte v t k)
  exact key _ s

/-! ## Bus writes -/

@[simp] theorem busWrite_cpu (s : State) (a : Word) (v : Byte) : (busWrite s a v).cpu = s.cpu := by
  apply busWrite_elim (P := fun t => t.cpu = s.cpu)
  case dma => intro _; obtain ⟨m, hm⟩ := dmaCopy_eq v { s with ppu := s.ppu.regStore a.toNat v }; rw [hm]
  all_goals intros; rfl

@[simp] theorem busWrite_cfg (s : State) (a : Word) (v : Byte) : (busWrite s a v).cfg = s.cfg := by
  apply busWrite_elim (P := fun t => t.cfg = s.cfg)
  case dma => intro _; obtain ⟨m, hm⟩ := dmaCopy_eq v { s with ppu := s.ppu.regStore a.toNat v }; rw [hm]
  all_goals intros; rfl

@[simp] theorem busWrite_reg (s : State) (a : Word) (v : Byte) (r : Reg) : (busWrite s a v).reg r = s.reg r := by
  cases r <;> simp [State.reg]

/-- A bus write does not depend on the CPU. -/
theorem busWrite_withCpu (s : State) (c : Cpu) (a : Word) (v : Byte) :
    busWrite { s with cpu := c } a v = { busWrite s a v with cpu := c } := by
  unfold busWrite
  simp only [apply_ite (fun t : State => ({ t with cpu := c } : State))]
  have := dmaCopy_withCpu v { s with ppu := s.ppu.regStore a.toNat v } c
  simp only at this
  rw [this]

theorem Ppu.regStore_keeps (s : State) (a : Nat) (v : Byte) :
    StoreKeeps s { s with ppu := s.ppu.regStore a v } := by
  have hm := fun h => regStore_memory (s := s) h a v
  revert hm
  apply Ppu.regStore_elim
    (P := fun q => (MemoryInv s → MemoryInv { s with ppu := q }) → StoreKeeps s { s with ppu := q }) <;>
    intros <;> rename_i hm <;> exact { StoreKeeps.refl s with memory := hm }

/-- A cartridge write does not change the variant (00_scope.md R9). -/
theorem Cart.write_variant (c : Cart) (a : Nat) (v : Byte) : (c.write a v).ctrl = .direct ↔ c.ctrl = .direct := by
  unfold Cart.write
  split
  · split <;> rfl
  · split
    · rfl
    · rename_i r hr
      simp [hr]

theorem Cart.write_keeps (c : Cart) (a : Nat) (v : Byte) (h : CartInv c) : CartInv (c.write a v) := by
  have hf := Cart.write_fixed c a v
  refine ⟨hf.2.1 ▸ h.banks, ?_⟩
  unfold Cart.write
  split_ifs with h1
  · split <;> exact h.bank5
  · split
    · exact h.bank5
    · rename_i r hr
      intro r' hr'
      simp only [Controller.banked.injEq] at hr'
      subst hr'
      have h5 := h.bank5 r hr
      have h6 : (if BitVec.extractLsb' 0 5 v = 0#5 then 1#5 else BitVec.extractLsb' 0 5 v) ≠ 0#5 := by
        split_ifs with h
        · decide
        · exact h
      unfold BankRegs.latch
      exact iteInduction (motive := fun x : BankRegs => x.bank5 ≠ 0#5) (fun _ => h5) fun _ =>
        iteInduction (motive := fun x : BankRegs => x.bank5 ≠ 0#5) (fun _ => h6) fun _ =>
        iteInduction (motive := fun x : BankRegs => x.bank5 ≠ 0#5) (fun _ => h5) fun _ => h5

/-- What a bus write cannot reach is unchanged by it. -/
theorem busWrite_keeps (s : State) (a : Word) (v : Byte) : StoreKeeps s (busWrite s a v) := by
  have hm := fun h => busWrite_memory (s := s) h a v
  revert hm
  apply busWrite_elim (P := fun t => (MemoryInv s → MemoryInv t) → StoreKeeps s t)
  case dma =>
    intro _ hm
    have h := Ppu.regStore_keeps s a.toNat v
    revert hm
    obtain ⟨m, hm⟩ := dmaCopy_eq v { s with ppu := s.ppu.regStore a.toNat v }
    rw [hm]
    exact h.setOam m
  case ppuReg => exact fun _ _ _ _ => Ppu.regStore_keeps s a.toNat v
  case cart =>
    intro _ hm
    have hf := Cart.write_fixed s.cart a.toNat v
    exact { StoreKeeps.refl s with
      memory := hm, rom := hf.1, romBanks := hf.2.1, ramBanks := hf.2.2, variant := Cart.write_variant _ _ _,
      cart := Cart.write_keeps _ _ _ }
  case dropped => exact fun _ => .refl s
  case vram => exact fun _ _ _ hm => { StoreKeeps.refl s with memory := hm }
  case oam => exact fun _ _ _ hm => { StoreKeeps.refl s with memory := hm }
  case wram => exact fun _ _ hm => { StoreKeeps.refl s with memory := hm }
  case echo => exact fun _ _ hm => { StoreKeeps.refl s with memory := hm }
  case hram => exact fun _ _ hm => { StoreKeeps.refl s with memory := hm }
  all_goals exact fun _ hm => { StoreKeeps.refl s with memory := hm }

/-! ## Pushes -/

/-- A push lowers `SP` by two and stores the high byte at `SP - 1`, then the low byte at `SP - 2` (R194). -/
theorem push16_eq (s : State) (v : Word) :
    push16 s v =
      { busWrite (busWrite s (s.cpu.sp - 1#16) (hiByte v)) (s.cpu.sp - 2#16) (loByte v) with
        cpu.sp := s.cpu.sp - 2#16 } := by
  have h2 : s.cpu.sp - 1#16 - 1#16 = s.cpu.sp - 2#16 := by
    rw [BitVec.sub_sub]; rfl
  simp only [push16, pushByte, State.setSp, busWrite_cpu, busWrite_withCpu, h2]

@[simp] theorem push16_cpu (s : State) (v : Word) :
    (push16 s v).cpu = { s.cpu with sp := s.cpu.sp - 2#16 } := by
  simp [push16_eq]

@[simp] theorem push16_cfg (s : State) (v : Word) : (push16 s v).cfg = s.cfg := by
  simp [push16_eq]

@[simp] theorem push16_reg (s : State) (v : Word) (r : Reg) : (push16 s v).reg r = s.reg r := by
  cases r <;> simp [State.reg]

theorem push16_keeps (s : State) (v : Word) : StoreKeeps s (push16 s v) := by
  rw [push16_eq]
  exact ((busWrite_keeps _ _ _).trans (busWrite_keeps _ _ _)).trans (.of_eq rfl rfl rfl rfl)

/-- A push depends on the CPU only through `SP`. -/
theorem push16_withCpu (s : State) (c : Cpu) (v : Word) (h : c.sp = s.cpu.sp) :
    push16 { s with cpu := c } v = { push16 s v with cpu := { c with sp := c.sp - 2#16 } } := by
  rw [push16_eq, push16_eq]
  simp only [busWrite_withCpu, h]

/-! ## Slots and pairs -/

theorem writeSlot_keeps (s : State) (x : Slot) (v : Byte) : StoreKeeps s (writeSlot s x v) := by
  cases x with
  | reg r => exact .of_eq (by simp [writeSlot]) (by simp [writeSlot]) (by simp [writeSlot]) (by simp [writeSlot])
  | hlInd => exact busWrite_keeps _ _ _

/-- Writing a slot changes no flag, no control state and neither `SP` nor `PC`. -/
theorem writeSlot_control (s : State) (x : Slot) (v : Byte) :
    (writeSlot s x v).cpu.f = s.cpu.f ∧ (writeSlot s x v).cpu.ime = s.cpu.ime ∧
      (writeSlot s x v).cpu.haltBug = s.cpu.haltBug ∧ (writeSlot s x v).cpu.eiPending = s.cpu.eiPending ∧
      (writeSlot s x v).cpu.sp = s.cpu.sp ∧ (writeSlot s x v).cpu.pc = s.cpu.pc ∧
      (writeSlot s x v).cpu.halted = s.cpu.halted ∧ (writeSlot s x v).cpu.stopped = s.cpu.stopped := by
  cases x <;> simp [writeSlot]

theorem writePair_keeps (s : State) (p : Pair) (v : Word) : StoreKeeps s (writePair s p v) := by
  cases p <;> exact .of_eq rfl rfl rfl rfl

theorem writeStackPair_keeps (s : State) (p : StackPair) (v : Word) : StoreKeeps s (writeStackPair s p v) := by
  cases p <;> exact .of_eq rfl rfl rfl rfl

/-! ## Flags -/

/-- The packed flag byte has a zero low nibble (R22). -/
theorem Flags.pack_low (x : Flags) : x.pack &&& 0x0F#8 = 0#8 := by
  rcases x with ⟨_ | _, _ | _, _ | _, _ | _⟩ <;> rfl

/-- Packing and unpacking the flags agree. -/
@[simp] theorem Flags.unpack_pack (x : Flags) : Flags.unpack x.pack = x := by
  rcases x with ⟨_ | _, _ | _, _ | _, _ | _⟩ <;> rfl

/-- The bits of a packed flag byte (R22). -/
@[simp] theorem Flags.pack_bits (x : Flags) :
    x.pack.getLsbD 7 = x.z ∧ x.pack.getLsbD 6 = x.n ∧ x.pack.getLsbD 5 = x.h ∧ x.pack.getLsbD 4 = x.c ∧
      x.pack.extractLsb' 0 4 = 0#4 := by
  rcases x with ⟨_ | _, _ | _, _ | _, _ | _⟩ <;> decide

/-- A packed flag byte, flag by flag. -/
theorem flagsAre_pack {x : Flags} {z n h c : Bool} (hz : x.z = z) (hn : x.n = n) (hh : x.h = h) (hc : x.c = c) :
    FlagsAre x.pack z n h c := by
  subst hz hn hh hc
  exact x.pack_bits

/-! ## Interrupts -/

/-- Something is pending and enabled exactly when `pend` is not zero (60_exceptions.md R363). -/
theorem pend_ne_zero_iff (s : State) : pend s ≠ 0#5 ↔ ∃ n, Pending s n := by
  unfold pend Pending
  constructor
  · intro h
    by_contra hc
    push Not at hc
    refine h (BitVec.eq_of_getLsbD_eq fun i hi => ?_)
    have := hc i hi
    simp [hi] at this ⊢
    exact this
  · rintro ⟨n, h1, h2, h3⟩ h
    have := congrArg (fun x => x.getLsbD n) h
    rw [BitVec.getLsbD_and, BitVec.getLsbD_extractLsb', Nat.zero_add, h2, h3, BitVec.getLsbD_zero] at this
    simp [h1] at this

/-- Interrupt entry keeps everything a bus write cannot reach. -/
theorem enterInterrupt_keeps (i : IrqSource) (s : State) : StoreKeeps s (enterInterrupt i s) := by
  have h : StoreKeeps s { s with bus := s.bus.clear i, cpu.ime := false, cpu.eiPending := false } := by
    exact { StoreKeeps.refl s with memory := fun h => { h with } }
  unfold enterInterrupt
  extract_lets _ s1
  have h2 : StoreKeeps (push16 s1 s1.cpu.pc) (((push16 s1 s1.cpu.pc).setPc (vectorOf s.cfg.vector i)).setWait 19) :=
    .of_eq (by simp) (by simp) (by simp) (by simp)
  exact (h.trans (push16_keeps s1 s1.cpu.pc)).trans h2

/-- The CPU after interrupt entry (R365). -/
theorem enterInterrupt_cpu (i : IrqSource) (s : State) :
    (enterInterrupt i s).cpu =
      { s.cpu with
        ime := false, eiPending := false, sp := s.cpu.sp - 2#16, pc := vectorOf s.cfg.vector i, wait := 19 } := by
  simp [enterInterrupt]

/-- With something pending there is a lowest source, and its bit is pending. -/
theorem IrqSource.lowest_isSome {p : BitVec 5} (h : p ≠ 0#5) : ∃ i, IrqSource.lowest p = some i := by
  have key : ∀ p : BitVec 5, p ≠ 0#5 → (IrqSource.lowest p).isSome = true := by decide
  exact Option.isSome_iff_exists.1 (key p h)

end Sys2Proof.Machine
end

