-- ==== Sys2Proof/Laws/Bus.lean ====
section
/-! SUPPORT. Bus reads, range by range, and when two states show the same byte at an address; what the pixel processor's
registers read after a store. -/

namespace Sys2Proof.Machine

/-! ## One range at a time (20_memory.md R72) -/

theorem busRead_vram {s : State} {a : Word} (h1 : 0x8000 ≤ a.toNat) (h2 : a.toNat ≤ 0x9FFF) :
    busRead s a = if s.ppu.vramVisible then Cells.read s.ppu.vram (a.toNat - 0x8000) else s.cfg.openBus :=
  if_pos ⟨h1, h2⟩

theorem busRead_oam {s : State} {a : Word} (h1 : 0xFE00 ≤ a.toNat) (h2 : a.toNat ≤ 0xFE9F) :
    busRead s a = if s.ppu.oamVisible then Cells.read s.ppu.oam (a.toNat - 0xFE00) else s.cfg.openBus := by
  unfold busRead; rw [if_neg (by omega), if_pos ⟨h1, h2⟩]

theorem busRead_reg {s : State} {a : Word} (h1 : 0xFF40 ≤ a.toNat) (h2 : a.toNat ≤ 0xFF4B) :
    busRead s a = s.ppu.regRead a.toNat := by
  unfold busRead; rw [if_neg (by omega), if_neg (by omega), if_pos ⟨h1, h2⟩]

theorem busRead_cart {s : State} {a : Word}
    (h : a.toNat ≤ 0x7FFF ∨ (0xA000 ≤ a.toNat ∧ a.toNat ≤ 0xBFFF)) :
    busRead s a = match s.cart.mapRead a.toNat with
      | some (mem, off) => Cells.read (s.cart.array mem) off
      | none => s.cfg.openBus := by
  unfold busRead; rw [if_neg (by omega), if_neg (by omega), if_neg (by omega), if_pos h] <;> rfl

theorem busRead_wram {s : State} {a : Word} (h1 : 0xC000 ≤ a.toNat) (h2 : a.toNat ≤ 0xDFFF) :
    busRead s a = Cells.read s.bus.wram (a.toNat - 0xC000) := by
  unfold busRead
  rw [if_neg (by omega), if_neg (by omega), if_neg (by omega), if_neg (by omega), if_pos ⟨h1, h2⟩]

theorem busRead_echo {s : State} {a : Word} (h1 : 0xE000 ≤ a.toNat) (h2 : a.toNat ≤ 0xFDFF) :
    busRead s a = Cells.read s.bus.wram (a.toNat - 0xE000) := by
  unfold busRead
  rw [if_neg (by omega), if_neg (by omega), if_neg (by omega), if_neg (by omega), if_neg (by omega),
    if_pos ⟨h1, h2⟩]

theorem busRead_hram {s : State} {a : Word} (h1 : 0xFF80 ≤ a.toNat) (h2 : a.toNat ≤ 0xFFFE) :
    busRead s a = Cells.read s.bus.hram (a.toNat - 0xFF80) := by
  unfold busRead
  rw [if_neg (by omega), if_neg (by omega), if_neg (by omega), if_neg (by omega), if_neg (by omega),
    if_neg (by omega), if_pos ⟨h1, h2⟩]

/-! ## Two states that show the same byte -/

/-- Two states agree on a read if they agree on what the address's owner shows. -/
theorem busRead_same (s t : State) (b : Word)
    (vram : 0x8000 ≤ b.toNat → b.toNat ≤ 0x9FFF → t.ppu.vramVisible = s.ppu.vramVisible ∧
      Cells.read t.ppu.vram (b.toNat - 0x8000) = Cells.read s.ppu.vram (b.toNat - 0x8000))
    (oam : 0xFE00 ≤ b.toNat → b.toNat ≤ 0xFE9F → t.ppu.oamVisible = s.ppu.oamVisible ∧
      Cells.read t.ppu.oam (b.toNat - 0xFE00) = Cells.read s.ppu.oam (b.toNat - 0xFE00))
    (reg : 0xFF40 ≤ b.toNat → b.toNat ≤ 0xFF4B → t.ppu.regRead b.toNat = s.ppu.regRead b.toNat)
    (cart : b.toNat ≤ 0x7FFF ∨ (0xA000 ≤ b.toNat ∧ b.toNat ≤ 0xBFFF) →
      t.cart.mapRead b.toNat = s.cart.mapRead b.toNat ∧ ∀ m off, s.cart.mapRead b.toNat = some (m, off) →
        Cells.read (t.cart.array m) off = Cells.read (s.cart.array m) off)
    (wram : 0xC000 ≤ b.toNat → b.toNat ≤ 0xDFFF →
      Cells.read t.bus.wram (b.toNat - 0xC000) = Cells.read s.bus.wram (b.toNat - 0xC000))
    (echo : 0xE000 ≤ b.toNat → b.toNat ≤ 0xFDFF →
      Cells.read t.bus.wram (b.toNat - 0xE000) = Cells.read s.bus.wram (b.toNat - 0xE000))
    (hram : 0xFF80 ≤ b.toNat → b.toNat ≤ 0xFFFE →
      Cells.read t.bus.hram (b.toNat - 0xFF80) = Cells.read s.bus.hram (b.toNat - 0xFF80))
    (joyp : b.toNat = 0xFF00 → t.bus.joypRead = s.bus.joypRead)
    (div : b.toNat = 0xFF04 → t.bus.div = s.bus.div)
    (tima : b.toNat = 0xFF05 → t.bus.tima = s.bus.tima)
    (tma : b.toNat = 0xFF06 → t.bus.tma = s.bus.tma)
    (tac : b.toNat = 0xFF07 → t.bus.tac = s.bus.tac)
    (iflag : b.toNat = 0xFF0F → t.bus.iflag = s.bus.iflag)
    (boot : b.toNat = 0xFF50 → t.bus.boot = s.bus.boot)
    (ie : b.toNat = 0xFFFF → t.bus.ie = s.bus.ie)
    (cfg : t.cfg = s.cfg) : busRead t b = busRead s b := by
  unfold busRead
  simp only [cfg]
  refine if_ctx_congr Iff.rfl (fun h => ?_) fun _ => ?_
  · have := vram h.1 h.2; rw [this.1, this.2]
  refine if_ctx_congr Iff.rfl (fun h => ?_) fun _ => ?_
  · have := oam h.1 h.2; rw [this.1, this.2]
  refine if_ctx_congr Iff.rfl (fun h => reg h.1 h.2) fun _ => ?_
  refine if_ctx_congr Iff.rfl (fun h => ?_) fun _ => ?_
  · obtain ⟨h1, h2⟩ := cart h
    rw [h1]
    cases h3 : s.cart.mapRead b.toNat with
    | none => rfl
    | some x => exact h2 _ _ h3
  refine if_ctx_congr Iff.rfl (fun h => wram h.1 h.2) fun _ => ?_
  refine if_ctx_congr Iff.rfl (fun h => echo h.1 h.2) fun _ => ?_
  refine if_ctx_congr Iff.rfl (fun h => hram h.1 h.2) fun _ => ?_
  refine if_ctx_congr Iff.rfl joyp fun _ => ?_
  refine if_ctx_congr Iff.rfl div fun _ => ?_
  refine if_ctx_congr Iff.rfl tima fun _ => ?_
  refine if_ctx_congr Iff.rfl tma fun _ => ?_
  refine if_ctx_congr Iff.rfl (fun h => by rw [tac h]) fun _ => ?_
  refine if_ctx_congr Iff.rfl (fun h => by rw [iflag h]) fun _ => ?_
  refine if_ctx_congr Iff.rfl boot fun _ => ?_
  exact if_ctx_congr Iff.rfl ie fun _ => rfl

/-! ## The pixel processor's registers (R76) -/

/-- A register read depends on the register at the address only. -/
theorem Ppu.regRead_congr (p q : Ppu) (b : Nat) (lcdc : b = 0xFF40 → q.lcdc = p.lcdc)
    (stat : b = 0xFF41 → q.statRead = p.statRead) (scy : b = 0xFF42 → q.scy = p.scy)
    (scx : b = 0xFF43 → q.scx = p.scx) (ly : b = 0xFF44 → q.ly = p.ly) (lyc : b = 0xFF45 → q.lyc = p.lyc)
    (dma : b = 0xFF46 → q.dma = p.dma) (bgp : b = 0xFF47 → q.bgp = p.bgp) (obp0 : b = 0xFF48 → q.obp0 = p.obp0)
    (obp1 : b = 0xFF49 → q.obp1 = p.obp1) (wy : b = 0xFF4A → q.wy = p.wy)
    (wx : (b < 0xFF40 ∨ 0xFF4A < b) → q.wx = p.wx) : q.regRead b = p.regRead b := by
  unfold Ppu.regRead
  refine if_ctx_congr Iff.rfl lcdc fun _ => ?_
  refine if_ctx_congr Iff.rfl stat fun _ => ?_
  refine if_ctx_congr Iff.rfl scy fun _ => ?_
  refine if_ctx_congr Iff.rfl scx fun _ => ?_
  refine if_ctx_congr Iff.rfl ly fun _ => ?_
  refine if_ctx_congr Iff.rfl lyc fun _ => ?_
  refine if_ctx_congr Iff.rfl dma fun _ => ?_
  refine if_ctx_congr Iff.rfl bgp fun _ => ?_
  refine if_ctx_congr Iff.rfl obp0 fun _ => ?_
  refine if_ctx_congr Iff.rfl obp1 fun _ => ?_
  exact if_ctx_congr Iff.rfl wy fun _ => wx (by omega)

/-- Storing one register leaves what the others read. -/
theorem Ppu.regRead_regStore_ne (p : Ppu) (a b : Nat) (v : Byte) (ha : 0xFF40 ≤ a) (ha' : a ≤ 0xFF4B)
    (hb : 0xFF40 ≤ b) (hb' : b ≤ 0xFF4B) (h : b ≠ a) : (p.regStore a v).regRead b = p.regRead b := by
  apply Ppu.regStore_elim (P := fun q => q.regRead b = p.regRead b)
  case ly => exact fun _ => rfl
  all_goals
    intro e
    apply Ppu.regRead_congr <;> first | exact fun _ => rfl | (intro e'; omega)

/-- Only a store to `LCDC` changes what the bus may see. -/
theorem Ppu.visible_regStore (p : Ppu) (a : Nat) (v : Byte) (h : a ≠ 0xFF40) :
    (p.regStore a v).vramVisible = p.vramVisible ∧ (p.regStore a v).oamVisible = p.oamVisible := by
  apply Ppu.regStore_elim (P := fun q => q.vramVisible = p.vramVisible ∧ q.oamVisible = p.oamVisible)
  case lcdc => exact fun e => absurd e h
  all_goals intros; exact ⟨rfl, rfl⟩

/-- A latch write does not move the fixed ROM window (20_memory.md R117). -/
theorem Cart.mapRead_write_low (c : Cart) (a b : Nat) (v : Byte) (ha : a ≤ 0x7FFF) (hb : b ≤ 0x3FFF) :
    (c.write a v).mapRead b = c.mapRead b := by
  unfold Cart.write Cart.mapRead
  rw [if_neg (by omega), if_neg (by omega), if_neg (by omega)]
  cases h : c.ctrl with
  | direct => simp only [h]
  | banked r => simp only [hb, if_true]

/-! ## The frame of a store -/

/-- The frame of every store: a bus write changes no read that `StoreMayChange` does not name. -/
theorem busRead_busWrite_of_not (s : State) (a b : Word) (v : Byte) (hm : MemoryInv s) (h : ¬ StoreMayChange a b) :
    busRead (busWrite s a v) b = busRead s b := by
  simp only [StoreMayChange, EchoOf, not_or, not_and] at h
  obtain ⟨h1, ⟨h2, h2'⟩, h3, h4, h5⟩ := h
  have h1 : b.toNat ≠ a.toNat := fun e => h1 (BitVec.eq_of_toNat_eq e)
  have ha := a.isLt
  have hb := b.isLt
  apply busWrite_elim (P := fun t => busRead t b = busRead s b)
  case vram =>
    intro k1 k2 k3
    apply busRead_same s _ b
    case vram => intro k4 k5; refine ⟨rfl, ?_⟩; rw [Cells.read_write _ hm.vram.1, if_neg (by omega)]
    all_goals first
      | (intros; rfl)
      | exact fun _ => ⟨rfl, fun _ _ _ => rfl⟩
      | exact fun _ _ => ⟨rfl, rfl⟩
  case oam =>
    intro k1 k2 k3
    apply busRead_same s _ b
    case oam => intro k4 k5; refine ⟨rfl, ?_⟩; rw [Cells.read_write _ hm.oam.1, if_neg (by omega)]
    all_goals first
      | (intros; rfl)
      | exact fun _ => ⟨rfl, fun _ _ _ => rfl⟩
      | exact fun _ _ => ⟨rfl, rfl⟩
  case dma =>
    intro k
    obtain ⟨m, hm'⟩ := dmaCopy_eq v { s with ppu := s.ppu.regStore a.toNat v }
    rw [hm']
    have ha6 : a = 0xFF46#16 := BitVec.eq_of_toNat_eq k
    have h5 := h5 ha6
    have hvis := Ppu.visible_regStore s.ppu a.toNat v (by omega)
    have hmem := Ppu.regStore_mem s.ppu a.toNat v
    apply busRead_same s _ b
    case vram => exact fun _ _ => ⟨hvis.1, by rw [hmem.1]⟩
    case oam => intro q1 q2; exact absurd q2 (h5 q1)
    case reg => intro q1 q2; exact Ppu.regRead_regStore_ne s.ppu a.toNat b.toNat v (by omega) (by omega) q1 q2 h1
    all_goals first
      | (intros; rfl)
      | exact fun _ => ⟨rfl, fun _ _ _ => rfl⟩
  case ppuReg =>
    intro k1 k2 k3
    have hmem := Ppu.regStore_mem s.ppu a.toNat v
    by_cases h40 : a.toNat = 0xFF40
    · have ha6 : a = 0xFF40#16 := BitVec.eq_of_toNat_eq h40
      have h4 := h4 ha6
      apply busRead_same s _ b
      case vram => intro q1 q2; exact absurd q2 (h4.1 q1)
      case oam => intro q1 q2; exact absurd q2 (h4.2 q1)
      case reg => intro q1 q2; exact Ppu.regRead_regStore_ne s.ppu a.toNat b.toNat v (by omega) (by omega) q1 q2 h1
      all_goals first
      | (intros; rfl)
      | exact fun _ => ⟨rfl, fun _ _ _ => rfl⟩
    · have hvis := Ppu.visible_regStore s.ppu a.toNat v h40
      apply busRead_same s _ b
      case vram => exact fun _ _ => ⟨hvis.1, by rw [hmem.1]⟩
      case oam =>
        intro q1 q2
        exact ⟨hvis.2, by rw [hmem.2.1]⟩
      case reg => intro q1 q2; exact Ppu.regRead_regStore_ne s.ppu a.toNat b.toNat v (by omega) (by omega) q1 q2 h1
      all_goals first
      | (intros; rfl)
      | exact fun _ => ⟨rfl, fun _ _ _ => rfl⟩
  case cart =>
    intro k
    have hf := Cart.write_fixed s.cart a.toNat v
    apply busRead_same s _ b
    case cart =>
      intro q
      rcases k with k | k
      · have h3 := h3 k
        have hb3 : b.toNat ≤ 0x3FFF := by
          by_contra hc
          rcases q with q | q
          · exact h3.1 (by omega) q
          · exact h3.2 q.1 q.2
        refine ⟨Cart.mapRead_write_low s.cart _ _ v k hb3, fun m off hmo => ?_⟩
        cases m with
        | rom => show Cells.read (s.cart.write a.toNat v).rom _ = _; rw [hf.1]; rfl
        | xram =>
          show Cells.read (s.cart.write a.toNat v).xram _ = _
          unfold Cart.write; rw [if_neg (by omega)]; split <;> rfl
      · have hw : s.cart.write a.toNat v = s.cart ∨ ∃ off, s.cart.xramMap a.toNat = some off ∧
            s.cart.write a.toNat v = { s.cart with xram := Cells.write s.cart.xram off v } := by
          unfold Cart.write; rw [if_pos k.1]
          cases hx : s.cart.xramMap a.toNat with
          | none => exact .inl rfl
          | some off => exact .inr ⟨off, rfl, rfl⟩
        rcases hw with hw | ⟨off, hx, hw⟩
        · simp only [hw]; exact ⟨trivial, fun _ _ _ => trivial⟩
        · simp only [hw]
          refine ⟨rfl, fun m o hmo => ?_⟩
          cases m with
          | rom => rfl
          | xram =>
            show Cells.read (Cells.write s.cart.xram off v) o = Cells.read s.cart.xram o
            rw [Cells.read_write _ hm.xram.1, if_neg]
            rintro rfl
            unfold Cart.mapRead at hmo
            by_cases hb' : 0xA000 ≤ b.toNat
            · rw [if_pos hb'] at hmo
              cases hy : s.cart.xramMap b.toNat with
              | none => simp [hy] at hmo
              | some o' =>
                simp [hy] at hmo
                subst hmo
                have q : b.toNat ≤ 0xBFFF := by omega
                unfold Cart.xramMap at hx hy
                split_ifs at hx hy
                cases hc : s.cart.ctrl with
                | direct => simp [hc] at hx hy; omega
                | banked r =>
                  simp only [hc] at hx hy
                  split_ifs at hx hy
                  simp only [Option.some.injEq] at hx hy
                  omega
            · rw [if_neg hb'] at hmo
              split at hmo
              · cases hmo
              · split_ifs at hmo <;> cases hmo
    all_goals first
      | (intros; rfl)
      | exact fun _ => ⟨rfl, fun _ _ _ => rfl⟩
      | exact fun _ _ => ⟨rfl, rfl⟩
  case dropped => rfl
  case wram =>
    intro k1 k2
    apply busRead_same s _ b
    case wram => intro q1 q2; rw [Cells.read_write _ hm.wram.1, if_neg (by omega)]
    case echo => intro q1 q2; rw [Cells.read_write _ hm.wram.1, if_neg (by omega)]
    all_goals first
      | (intros; rfl)
      | exact fun _ => ⟨rfl, fun _ _ _ => rfl⟩
      | exact fun _ _ => ⟨rfl, rfl⟩
  case echo =>
    intro k1 k2
    apply busRead_same s _ b
    case wram => intro q1 q2; rw [Cells.read_write _ hm.wram.1, if_neg (by omega)]
    case echo => intro q1 q2; rw [Cells.read_write _ hm.wram.1, if_neg (by omega)]
    all_goals first
      | (intros; rfl)
      | exact fun _ => ⟨rfl, fun _ _ _ => rfl⟩
      | exact fun _ _ => ⟨rfl, rfl⟩
  case hram =>
    intro k1 k2
    apply busRead_same s _ b
    case hram => intro q1 q2; rw [Cells.read_write _ hm.hram.1, if_neg (by omega)]
    all_goals first
      | (intros; rfl)
      | exact fun _ => ⟨rfl, fun _ _ _ => rfl⟩
      | exact fun _ _ => ⟨rfl, rfl⟩
  all_goals
    intro k
    apply busRead_same s _ b
    all_goals first
      | (intros; rfl)
      | exact fun _ => ⟨rfl, fun _ _ _ => rfl⟩
      | exact fun _ _ => ⟨rfl, rfl⟩ | (intro q; exact absurd (q.trans k.symm) h1)

end Sys2Proof.Machine
end

