-- ==== Sys2Proof/Laws/Decode.lean ====
section
/-! SUPPORT. The decoder, unfolded once: its equation on a non-empty list, and the three lengths. -/

namespace Sys2Proof

/-- An instruction is one, two or three bytes long (30_encoding.md R140, R154). -/
theorem opLength_cases (op : Byte) : opLength op = 1 ∨ opLength op = 2 ∨ opLength op = 3 := by
  unfold opLength
  extract_lets x y z
  split <;> (try split) <;> simp

/-- Decoding a list that holds the whole instruction. -/
theorem decode_of_length (op : Byte) (rest : List Byte) (h : opLength op ≤ rest.length + 1) :
    decode (op :: rest) =
      .ok (decodeWindow op (rest.getD 0 0#8) (rest.getD 1 0#8), rest.drop (opLength op - 1)) :=
  if_neg (Nat.not_lt.2 h)

/-- Decoding a list that ends before the instruction does. -/
theorem decode_of_short (op : Byte) (rest : List Byte) (h : rest.length + 1 < opLength op) :
    decode (op :: rest) = if op = 0xCB#8 then .ok (.prefixCb, rest) else .error .truncated :=
  if_pos h

/-- Three bytes always hold the whole instruction. -/
theorem decode_three (a b c : Byte) :
    decode [a, b, c] = .ok (decodeWindow a b c, [b, c].drop (opLength a - 1)) :=
  decode_of_length a [b, c] (by rcases opLength_cases a with h | h | h <;> simp [h])

end Sys2Proof
end

