-- ==== Sys2Proof/Laws/Exec.lean ====
section
/-! SUPPORT. What executing an instruction can do, said once for every constructor of `Instr`: it always answers a next
state, and either it is an undefined opcode that latches the invalid flag, or it changes nothing beyond the CPU
that a bus write cannot reach, keeps the flag byte's low nibble zero, and owes at most 23 ticks. -/

namespace Sys2Proof.Machine

/-- A change that leaves the interrupt and halt-quirk bits alone, keeps the flag byte's low nibble zero, and reaches
nothing outside the CPU that a bus write does not. -/
structure Quiet (s t : State) : Prop where
  keeps : StoreKeeps s t
  flagsLow : s.cpu.f &&& 0x0F#8 = 0#8 → t.cpu.f &&& 0x0F#8 = 0#8
  ime : t.cpu.ime = s.cpu.ime
  haltBug : t.cpu.haltBug = s.cpu.haltBug
  eiPending : t.cpu.eiPending = s.cpu.eiPending

theorem Quiet.refl (s : State) : Quiet s s := ⟨.refl s, id, rfl, rfl, rfl⟩

theorem Quiet.trans {s t u : State} (h : Quiet s t) (k : Quiet t u) : Quiet s u :=
  ⟨h.keeps.trans k.keeps, fun hs => k.flagsLow (h.flagsLow hs), k.ime.trans h.ime, k.haltBug.trans h.haltBug,
    k.eiPending.trans h.eiPending⟩

theorem quiet_setReg (s : State) (r : Reg) (v : Byte) : Quiet s (s.setReg r v) :=
  ⟨.of_eq (by simp) (by simp) (by simp) (by simp), by simp, by simp, by simp, by simp⟩

theorem quiet_setSp (s : State) (v : Word) : Quiet s (s.setSp v) := ⟨.of_eq rfl rfl rfl rfl, id, rfl, rfl, rfl⟩

theorem quiet_setPc (s : State) (v : Word) : Quiet s (s.setPc v) := ⟨.of_eq rfl rfl rfl rfl, id, rfl, rfl, rfl⟩

theorem quiet_setHl (s : State) (v : Word) : Quiet s (s.setHl v) := ⟨.of_eq rfl rfl rfl rfl, id, rfl, rfl, rfl⟩

theorem quiet_popState (s : State) : Quiet s (popState s) := ⟨.of_eq rfl rfl rfl rfl, id, rfl, rfl, rfl⟩

theorem quiet_setFlags (s : State) (x : Flags) : Quiet s (s.setFlags x) :=
  ⟨.of_eq rfl rfl rfl rfl, fun _ => x.pack_low, rfl, rfl, rfl⟩

theorem quiet_busWrite (s : State) (a : Word) (v : Byte) : Quiet s (busWrite s a v) :=
  ⟨busWrite_keeps s a v, by simp, by simp, by simp, by simp⟩

theorem quiet_push16 (s : State) (v : Word) : Quiet s (push16 s v) :=
  ⟨push16_keeps s v, by simp, by simp, by simp, by simp⟩

theorem quiet_writeSlot (s : State) (x : Slot) (v : Byte) : Quiet s (writeSlot s x v) := by
  have h := writeSlot_control s x v
  exact ⟨writeSlot_keeps s x v, by rw [h.1]; exact id, h.2.1, h.2.2.1, h.2.2.2.1⟩

theorem quiet_writePair (s : State) (p : Pair) (v : Word) : Quiet s (writePair s p v) := by
  refine ⟨writePair_keeps s p v, ?_, ?_, ?_, ?_⟩ <;> cases p <;> first | exact id | rfl

theorem quiet_writeStackPair (s : State) (p : StackPair) (v : Word) : Quiet s (writeStackPair s p v) := by
  refine ⟨writeStackPair_keeps s p v, ?_, ?_, ?_, ?_⟩ <;> cases p <;> try first | exact id | rfl
  intro _
  show loByte v &&& 0xF0#8 &&& 0x0F#8 = 0#8
  rw [BitVec.and_assoc]
  exact BitVec.and_zero

/-- What every instruction but the undefined opcodes leaves. -/
structure Ran (s t : State) : Prop where
  keeps : StoreKeeps s t
  wait : t.cpu.wait ≤ 23
  flagsLow : s.cpu.f &&& 0x0F#8 = 0#8 → t.cpu.f &&& 0x0F#8 = 0#8
  haltBug : t.cpu.haltBug = true → s.cpu.haltBug = true ∨ t.cpu.ime = false
  eiPending : t.cpu.eiPending = true → s.cpu.eiPending = true ∨ s.cfg.eiDelay = .one

/-- The result is a next state that `Ran` describes. -/
def Runs (s : State) (r : Result) : Prop := ∃ t, r = .next t ∧ Ran s t

/-- The end of an instruction of at most 24 ticks whose effect is quiet. -/
theorem runs_finish {s t : State} {cost : Nat} (hc : cost ≤ 24) (h : Quiet s t) : Runs s (finish cost t) := by
  refine ⟨_, rfl, h.keeps.trans (.of_eq rfl rfl rfl rfl), ?_, h.flagsLow, ?_, ?_⟩
  · show cost - 1 ≤ 23
    omega
  · intro hb; exact .inl (h.haltBug ▸ hb)
  · intro he; exact .inl (h.eiPending ▸ he)

theorem slotCost_le (x : Slot) : slotCost x ≤ 4 := by cases x <;> simp [slotCost]

/-! ## Loads -/

theorem opLd_runs (d x : Slot) (s : State) : Runs s (opLd d x s) :=
  runs_finish (by have := slotCost_le d; have := slotCost_le x; omega) (quiet_writeSlot _ _ _)

theorem opLdImm_runs (d : Slot) (n : Byte) (s : State) : Runs s (opLdImm d n s) :=
  runs_finish (by have := slotCost_le d; omega) (quiet_writeSlot _ _ _)

theorem opStoreA_runs (a : Word) (cost : Nat) (hc : cost ≤ 24) (s : State) : Runs s (opStoreA a cost s) :=
  runs_finish hc (quiet_busWrite _ _ _)

theorem opLoadA_runs (a : Word) (cost : Nat) (hc : cost ≤ 24) (s : State) : Runs s (opLoadA a cost s) :=
  runs_finish hc (quiet_setReg _ _ _)

theorem opStoreAStep_runs (d : Word) (s : State) : Runs s (opStoreAStep d s) :=
  runs_finish (by omega) ((quiet_busWrite _ _ _).trans (quiet_setHl _ _))

theorem opLoadAStep_runs (d : Word) (s : State) : Runs s (opLoadAStep d s) :=
  runs_finish (by omega) ((quiet_setReg _ _ _).trans (quiet_setHl _ _))

theorem opLdPair_runs (p : Pair) (nn : Word) (s : State) : Runs s (opLdPair p nn s) :=
  runs_finish (by omega) (quiet_writePair _ _ _)

theorem opStoreSp_runs (nn : Word) (s : State) : Runs s (opStoreSp nn s) :=
  runs_finish (by omega) ((quiet_busWrite _ _ _).trans (quiet_busWrite _ _ _))

theorem opLdSpHl_runs (s : State) : Runs s (opLdSpHl s) := runs_finish (by omega) (quiet_setSp _ _)

theorem opLdHlSp_runs (e : Byte) (s : State) : Runs s (opLdHlSp e s) :=
  runs_finish (by omega) ((quiet_setFlags _ _).trans (quiet_setHl _ _))

theorem opPush_runs (p : StackPair) (s : State) : Runs s (opPush p s) := runs_finish (by omega) (quiet_push16 _ _)

theorem opPop_runs (p : StackPair) (s : State) : Runs s (opPop p s) :=
  runs_finish (by omega) ((quiet_popState s).trans (quiet_writeStackPair _ _ _))

/-! ## Arithmetic -/

theorem opInc_runs (x : Slot) (s : State) : Runs s (opInc x s) :=
  runs_finish (by have := slotCost_le x; omega) ((quiet_setFlags _ _).trans (quiet_writeSlot _ _ _))

theorem opDec_runs (x : Slot) (s : State) : Runs s (opDec x s) :=
  runs_finish (by have := slotCost_le x; omega) ((quiet_setFlags _ _).trans (quiet_writeSlot _ _ _))

theorem opIncPair_runs (p : Pair) (s : State) : Runs s (opIncPair p s) :=
  runs_finish (by omega) (quiet_writePair _ _ _)

theorem opDecPair_runs (p : Pair) (s : State) : Runs s (opDecPair p s) :=
  runs_finish (by omega) (quiet_writePair _ _ _)

theorem opAddHl_runs (p : Pair) (s : State) : Runs s (opAddHl p s) :=
  runs_finish (by omega) ((quiet_setFlags _ _).trans (quiet_setHl _ _))

theorem opAddSp_runs (e : Byte) (s : State) : Runs s (opAddSp e s) :=
  runs_finish (by omega) ((quiet_setFlags _ _).trans (quiet_setSp _ _))

theorem quiet_aluWith (op : AluOp) (v : Byte) (s : State) : Quiet s (aluWith op v s) := by
  unfold aluWith
  exact (quiet_setFlags _ _).trans (quiet_setReg _ _ _)

theorem opAlu_runs (op : AluOp) (x : Slot) (s : State) : Runs s (opAlu op x s) :=
  runs_finish (by have := slotCost_le x; omega) (quiet_aluWith _ _ _)

theorem opAluImm_runs (op : AluOp) (n : Byte) (s : State) : Runs s (opAluImm op n s) :=
  runs_finish (by omega) (quiet_aluWith _ _ _)

theorem opRotA_runs (op : RotOp) (s : State) : Runs s (opRotA op s) :=
  runs_finish (by omega) ((quiet_setFlags _ _).trans (quiet_setReg _ _ _))

theorem opDaa_runs (s : State) : Runs s (opDaa s) :=
  runs_finish (by omega) ((quiet_setFlags _ _).trans (quiet_setReg _ _ _))

theorem opCpl_runs (s : State) : Runs s (opCpl s) :=
  runs_finish (by omega) ((quiet_setFlags _ _).trans (quiet_setReg _ _ _))

theorem opScf_runs (s : State) : Runs s (opScf s) := runs_finish (by omega) (quiet_setFlags _ _)

theorem opCcf_runs (s : State) : Runs s (opCcf s) := runs_finish (by omega) (quiet_setFlags _ _)

theorem opRot_runs (op : RotOp) (x : Slot) (s : State) : Runs s (opRot op x s) :=
  runs_finish (by have := slotCost_le x; omega) ((quiet_setFlags _ _).trans (quiet_writeSlot _ _ _))

theorem opBit_runs (b : Nat) (x : Slot) (s : State) : Runs s (opBit b x s) :=
  runs_finish (by have := slotCost_le x; omega) (quiet_setFlags _ _)

theorem opRes_runs (b : Nat) (x : Slot) (s : State) : Runs s (opRes b x s) :=
  runs_finish (by have := slotCost_le x; omega) (quiet_writeSlot _ _ _)

theorem opSet_runs (b : Nat) (x : Slot) (s : State) : Runs s (opSet b x s) :=
  runs_finish (by have := slotCost_le x; omega) (quiet_writeSlot _ _ _)

theorem quiet_fetch8State (s : State) : Quiet s (fetch8State s) := quiet_setPc _ _

/-- A quiet change before a result that runs. -/
theorem Runs.after {s t : State} {r : Result} (h : Quiet s t) (hr : Runs t r) : Runs s r := by
  obtain ⟨u, rfl, k⟩ := hr
  refine ⟨u, rfl, h.keeps.trans k.keeps, k.wait, fun hs => k.flagsLow (h.flagsLow hs), fun hb => ?_, fun he => ?_⟩
  · exact h.haltBug ▸ k.haltBug hb
  · rw [← h.eiPending, ← h.keeps.cfg]; exact k.eiPending he

theorem opExtended_runs (op2 : Byte) (s : State) : Runs s (opExtended op2 s) := by
  unfold opExtended
  split
  · exact opRot_runs _ _ _
  · exact opBit_runs _ _ _
  · exact opRes_runs _ _ _
  · exact opSet_runs _ _ _

theorem opPrefix_runs (s : State) : Runs s (opPrefix s) :=
  Runs.after (quiet_fetch8State s) (opExtended_runs _ _)

/-! ## Control flow and system -/

theorem opJr_runs (e : Byte) (s : State) : Runs s (opJr e s) := runs_finish (by omega) (quiet_setPc _ _)

theorem opJrCond_runs (cc : Cond) (e : Byte) (s : State) : Runs s (opJrCond cc e s) := by
  unfold opJrCond
  split
  · exact runs_finish (by omega) (quiet_setPc _ _)
  · exact runs_finish (by omega) (.refl s)

theorem opJp_runs (nn : Word) (s : State) : Runs s (opJp nn s) := runs_finish (by omega) (quiet_setPc _ _)

theorem opJpCond_runs (cc : Cond) (nn : Word) (s : State) : Runs s (opJpCond cc nn s) := by
  unfold opJpCond
  split
  · exact runs_finish (by omega) (quiet_setPc _ _)
  · exact runs_finish (by omega) (.refl s)

theorem opJpHl_runs (s : State) : Runs s (opJpHl s) := runs_finish (by omega) (quiet_setPc _ _)

theorem quiet_callTo (nn : Word) (s : State) : Quiet s (callTo nn s) := (quiet_push16 _ _).trans (quiet_setPc _ _)

theorem quiet_returnTo (s : State) : Quiet s (returnTo s) := (quiet_popState s).trans (quiet_setPc _ _)

theorem opCall_runs (nn : Word) (s : State) : Runs s (opCall nn s) := runs_finish (by omega) (quiet_callTo _ _)

theorem opCallCond_runs (cc : Cond) (nn : Word) (s : State) : Runs s (opCallCond cc nn s) := by
  unfold opCallCond
  split
  · exact runs_finish (by omega) (quiet_callTo _ _)
  · exact runs_finish (by omega) (.refl s)

theorem opRet_runs (s : State) : Runs s (opRet s) := runs_finish (by omega) (quiet_returnTo _)

theorem opRetCond_runs (cc : Cond) (s : State) : Runs s (opRetCond cc s) := by
  unfold opRetCond
  split
  · exact runs_finish (by omega) (quiet_returnTo _)
  · exact runs_finish (by omega) (.refl s)

theorem opRst_runs (t : Word) (s : State) : Runs s (opRst t s) := runs_finish (by omega) (quiet_callTo _ _)

/-- The end of an instruction that changes the CPU only and leaves `F`, the halt quirk and a delayed `EI` alone. -/
theorem runs_control {s t : State} {cost : Nat} (hc : cost ≤ 24) (h : StoreKeeps s t) (hf : t.cpu.f = s.cpu.f)
    (hb : t.cpu.haltBug = true → s.cpu.haltBug = true ∨ t.cpu.ime = false)
    (he : t.cpu.eiPending = true → s.cpu.eiPending = true ∨ s.cfg.eiDelay = .one) :
    Runs s (finish cost t) := by
  refine ⟨_, rfl, h.trans (.of_eq rfl rfl rfl rfl), ?_, by show _ → t.cpu.f &&& _ = _; rw [hf]; exact id, hb, he⟩
  show cost - 1 ≤ 23
  omega

theorem opReti_runs (s : State) : Runs s (opReti s) :=
  runs_control (by omega) (.of_eq rfl rfl rfl rfl) rfl .inl .inl

theorem opDi_runs (s : State) : Runs s (opDi s) :=
  runs_control (by omega) (.of_eq rfl rfl rfl rfl) rfl .inl .inl

theorem opEi_runs (s : State) : Runs s (opEi s) := by
  unfold opEi
  split
  · exact runs_control (by omega) (.of_eq rfl rfl rfl rfl) rfl .inl .inl
  · exact runs_control (by omega) (.of_eq rfl rfl rfl rfl) rfl .inl fun _ => .inr ‹_›

theorem opNop_runs (s : State) : Runs s (opNop s) := runs_finish (by omega) (.refl s)

theorem opHalt_runs (s : State) : Runs s (opHalt s) := by
  unfold opHalt
  split
  · rename_i h
    refine runs_control (by omega) (.of_eq rfl rfl rfl rfl) rfl (fun _ => .inr ?_) .inl
    show s.cpu.ime = false
    simp only [Bool.and_eq_true, Bool.not_eq_true'] at h
    exact h.1
  · exact runs_control (by omega) (.of_eq rfl rfl rfl rfl) rfl .inl .inl

theorem opStop_runs (s : State) : Runs s (opStop s) :=
  runs_control (by omega) (.of_eq rfl rfl rfl rfl) rfl .inl .inl

/-! ## Every instruction -/

/-- What executing an instruction can do. -/
theorem exec_cases (i : Instr) (s : State) :
    Runs s (exec i s) ∨ exec i s = .next { s with bus.invalid := true } := by
  cases i
  case nop => exact .inl (opNop_runs _)
  case ldBcN16 => exact .inl (opLdPair_runs _ _ _)
  case ldIndBcA => exact .inl (opStoreA_runs _ _ (by omega) _)
  case incBc => exact .inl (opIncPair_runs _ _)
  case incB => exact .inl (opInc_runs _ _)
  case decB => exact .inl (opDec_runs _ _)
  case ldBN8 => exact .inl (opLdImm_runs _ _ _)
  case rlca => exact .inl (opRotA_runs _ _)
  case ldIndN16Sp => exact .inl (opStoreSp_runs _ _)
  case addHlBc => exact .inl (opAddHl_runs _ _)
  case ldAIndBc => exact .inl (opLoadA_runs _ _ (by omega) _)
  case decBc => exact .inl (opDecPair_runs _ _)
  case incC => exact .inl (opInc_runs _ _)
  case decC => exact .inl (opDec_runs _ _)
  case ldCN8 => exact .inl (opLdImm_runs _ _ _)
  case rrca => exact .inl (opRotA_runs _ _)
  case stop => exact .inl (opStop_runs _)
  case ldDeN16 => exact .inl (opLdPair_runs _ _ _)
  case ldIndDeA => exact .inl (opStoreA_runs _ _ (by omega) _)
  case incDe => exact .inl (opIncPair_runs _ _)
  case incD => exact .inl (opInc_runs _ _)
  case decD => exact .inl (opDec_runs _ _)
  case ldDN8 => exact .inl (opLdImm_runs _ _ _)
  case rla => exact .inl (opRotA_runs _ _)
  case jrE8 => exact .inl (opJr_runs _ _)
  case addHlDe => exact .inl (opAddHl_runs _ _)
  case ldAIndDe => exact .inl (opLoadA_runs _ _ (by omega) _)
  case decDe => exact .inl (opDecPair_runs _ _)
  case incE => exact .inl (opInc_runs _ _)
  case decE => exact .inl (opDec_runs _ _)
  case ldEN8 => exact .inl (opLdImm_runs _ _ _)
  case rra => exact .inl (opRotA_runs _ _)
  case jrNzE8 => exact .inl (opJrCond_runs _ _ _)
  case ldHlN16 => exact .inl (opLdPair_runs _ _ _)
  case ldIndHlIncA => exact .inl (opStoreAStep_runs _ _)
  case incHl => exact .inl (opIncPair_runs _ _)
  case incH => exact .inl (opInc_runs _ _)
  case decH => exact .inl (opDec_runs _ _)
  case ldHN8 => exact .inl (opLdImm_runs _ _ _)
  case daa => exact .inl (opDaa_runs _)
  case jrZE8 => exact .inl (opJrCond_runs _ _ _)
  case addHlHl => exact .inl (opAddHl_runs _ _)
  case ldAIndHlInc => exact .inl (opLoadAStep_runs _ _)
  case decHl => exact .inl (opDecPair_runs _ _)
  case incL => exact .inl (opInc_runs _ _)
  case decL => exact .inl (opDec_runs _ _)
  case ldLN8 => exact .inl (opLdImm_runs _ _ _)
  case cpl => exact .inl (opCpl_runs _)
  case jrNcE8 => exact .inl (opJrCond_runs _ _ _)
  case ldSpN16 => exact .inl (opLdPair_runs _ _ _)
  case ldIndHlDecA => exact .inl (opStoreAStep_runs _ _)
  case incSp => exact .inl (opIncPair_runs _ _)
  case incIndHl => exact .inl (opInc_runs _ _)
  case decIndHl => exact .inl (opDec_runs _ _)
  case ldIndHlN8 => exact .inl (opLdImm_runs _ _ _)
  case scf => exact .inl (opScf_runs _)
  case jrCE8 => exact .inl (opJrCond_runs _ _ _)
  case addHlSp => exact .inl (opAddHl_runs _ _)
  case ldAIndHlDec => exact .inl (opLoadAStep_runs _ _)
  case decSp => exact .inl (opDecPair_runs _ _)
  case incA => exact .inl (opInc_runs _ _)
  case decA => exact .inl (opDec_runs _ _)
  case ldAN8 => exact .inl (opLdImm_runs _ _ _)
  case ccf => exact .inl (opCcf_runs _)
  case ldBB => exact .inl (opLd_runs _ _ _)
  case ldBC => exact .inl (opLd_runs _ _ _)
  case ldBD => exact .inl (opLd_runs _ _ _)
  case ldBE => exact .inl (opLd_runs _ _ _)
  case ldBH => exact .inl (opLd_runs _ _ _)
  case ldBL => exact .inl (opLd_runs _ _ _)
  case ldBIndHl => exact .inl (opLd_runs _ _ _)
  case ldBA => exact .inl (opLd_runs _ _ _)
  case ldCB => exact .inl (opLd_runs _ _ _)
  case ldCC => exact .inl (opLd_runs _ _ _)
  case ldCD => exact .inl (opLd_runs _ _ _)
  case ldCE => exact .inl (opLd_runs _ _ _)
  case ldCH => exact .inl (opLd_runs _ _ _)
  case ldCL => exact .inl (opLd_runs _ _ _)
  case ldCIndHl => exact .inl (opLd_runs _ _ _)
  case ldCA => exact .inl (opLd_runs _ _ _)
  case ldDB => exact .inl (opLd_runs _ _ _)
  case ldDC => exact .inl (opLd_runs _ _ _)
  case ldDD => exact .inl (opLd_runs _ _ _)
  case ldDE => exact .inl (opLd_runs _ _ _)
  case ldDH => exact .inl (opLd_runs _ _ _)
  case ldDL => exact .inl (opLd_runs _ _ _)
  case ldDIndHl => exact .inl (opLd_runs _ _ _)
  case ldDA => exact .inl (opLd_runs _ _ _)
  case ldEB => exact .inl (opLd_runs _ _ _)
  case ldEC => exact .inl (opLd_runs _ _ _)
  case ldED => exact .inl (opLd_runs _ _ _)
  case ldEE => exact .inl (opLd_runs _ _ _)
  case ldEH => exact .inl (opLd_runs _ _ _)
  case ldEL => exact .inl (opLd_runs _ _ _)
  case ldEIndHl => exact .inl (opLd_runs _ _ _)
  case ldEA => exact .inl (opLd_runs _ _ _)
  case ldHB => exact .inl (opLd_runs _ _ _)
  case ldHC => exact .inl (opLd_runs _ _ _)
  case ldHD => exact .inl (opLd_runs _ _ _)
  case ldHE => exact .inl (opLd_runs _ _ _)
  case ldHH => exact .inl (opLd_runs _ _ _)
  case ldHL => exact .inl (opLd_runs _ _ _)
  case ldHIndHl => exact .inl (opLd_runs _ _ _)
  case ldHA => exact .inl (opLd_runs _ _ _)
  case ldLB => exact .inl (opLd_runs _ _ _)
  case ldLC => exact .inl (opLd_runs _ _ _)
  case ldLD => exact .inl (opLd_runs _ _ _)
  case ldLE => exact .inl (opLd_runs _ _ _)
  case ldLH => exact .inl (opLd_runs _ _ _)
  case ldLL => exact .inl (opLd_runs _ _ _)
  case ldLIndHl => exact .inl (opLd_runs _ _ _)
  case ldLA => exact .inl (opLd_runs _ _ _)
  case ldIndHlB => exact .inl (opLd_runs _ _ _)
  case ldIndHlC => exact .inl (opLd_runs _ _ _)
  case ldIndHlD => exact .inl (opLd_runs _ _ _)
  case ldIndHlE => exact .inl (opLd_runs _ _ _)
  case ldIndHlH => exact .inl (opLd_runs _ _ _)
  case ldIndHlL => exact .inl (opLd_runs _ _ _)
  case halt => exact .inl (opHalt_runs _)
  case ldIndHlA => exact .inl (opLd_runs _ _ _)
  case ldAB => exact .inl (opLd_runs _ _ _)
  case ldAC => exact .inl (opLd_runs _ _ _)
  case ldAD => exact .inl (opLd_runs _ _ _)
  case ldAE => exact .inl (opLd_runs _ _ _)
  case ldAH => exact .inl (opLd_runs _ _ _)
  case ldAL => exact .inl (opLd_runs _ _ _)
  case ldAIndHl => exact .inl (opLd_runs _ _ _)
  case ldAA => exact .inl (opLd_runs _ _ _)
  case addAB => exact .inl (opAlu_runs _ _ _)
  case addAC => exact .inl (opAlu_runs _ _ _)
  case addAD => exact .inl (opAlu_runs _ _ _)
  case addAE => exact .inl (opAlu_runs _ _ _)
  case addAH => exact .inl (opAlu_runs _ _ _)
  case addAL => exact .inl (opAlu_runs _ _ _)
  case addAIndHl => exact .inl (opAlu_runs _ _ _)
  case addAA => exact .inl (opAlu_runs _ _ _)
  case adcAB => exact .inl (opAlu_runs _ _ _)
  case adcAC => exact .inl (opAlu_runs _ _ _)
  case adcAD => exact .inl (opAlu_runs _ _ _)
  case adcAE => exact .inl (opAlu_runs _ _ _)
  case adcAH => exact .inl (opAlu_runs _ _ _)
  case adcAL => exact .inl (opAlu_runs _ _ _)
  case adcAIndHl => exact .inl (opAlu_runs _ _ _)
  case adcAA => exact .inl (opAlu_runs _ _ _)
  case subAB => exact .inl (opAlu_runs _ _ _)
  case subAC => exact .inl (opAlu_runs _ _ _)
  case subAD => exact .inl (opAlu_runs _ _ _)
  case subAE => exact .inl (opAlu_runs _ _ _)
  case subAH => exact .inl (opAlu_runs _ _ _)
  case subAL => exact .inl (opAlu_runs _ _ _)
  case subAIndHl => exact .inl (opAlu_runs _ _ _)
  case subAA => exact .inl (opAlu_runs _ _ _)
  case sbcAB => exact .inl (opAlu_runs _ _ _)
  case sbcAC => exact .inl (opAlu_runs _ _ _)
  case sbcAD => exact .inl (opAlu_runs _ _ _)
  case sbcAE => exact .inl (opAlu_runs _ _ _)
  case sbcAH => exact .inl (opAlu_runs _ _ _)
  case sbcAL => exact .inl (opAlu_runs _ _ _)
  case sbcAIndHl => exact .inl (opAlu_runs _ _ _)
  case sbcAA => exact .inl (opAlu_runs _ _ _)
  case andAB => exact .inl (opAlu_runs _ _ _)
  case andAC => exact .inl (opAlu_runs _ _ _)
  case andAD => exact .inl (opAlu_runs _ _ _)
  case andAE => exact .inl (opAlu_runs _ _ _)
  case andAH => exact .inl (opAlu_runs _ _ _)
  case andAL => exact .inl (opAlu_runs _ _ _)
  case andAIndHl => exact .inl (opAlu_runs _ _ _)
  case andAA => exact .inl (opAlu_runs _ _ _)
  case xorAB => exact .inl (opAlu_runs _ _ _)
  case xorAC => exact .inl (opAlu_runs _ _ _)
  case xorAD => exact .inl (opAlu_runs _ _ _)
  case xorAE => exact .inl (opAlu_runs _ _ _)
  case xorAH => exact .inl (opAlu_runs _ _ _)
  case xorAL => exact .inl (opAlu_runs _ _ _)
  case xorAIndHl => exact .inl (opAlu_runs _ _ _)
  case xorAA => exact .inl (opAlu_runs _ _ _)
  case orAB => exact .inl (opAlu_runs _ _ _)
  case orAC => exact .inl (opAlu_runs _ _ _)
  case orAD => exact .inl (opAlu_runs _ _ _)
  case orAE => exact .inl (opAlu_runs _ _ _)
  case orAH => exact .inl (opAlu_runs _ _ _)
  case orAL => exact .inl (opAlu_runs _ _ _)
  case orAIndHl => exact .inl (opAlu_runs _ _ _)
  case orAA => exact .inl (opAlu_runs _ _ _)
  case cpAB => exact .inl (opAlu_runs _ _ _)
  case cpAC => exact .inl (opAlu_runs _ _ _)
  case cpAD => exact .inl (opAlu_runs _ _ _)
  case cpAE => exact .inl (opAlu_runs _ _ _)
  case cpAH => exact .inl (opAlu_runs _ _ _)
  case cpAL => exact .inl (opAlu_runs _ _ _)
  case cpAIndHl => exact .inl (opAlu_runs _ _ _)
  case cpAA => exact .inl (opAlu_runs _ _ _)
  case retNz => exact .inl (opRetCond_runs _ _)
  case popBc => exact .inl (opPop_runs _ _)
  case jpNzN16 => exact .inl (opJpCond_runs _ _ _)
  case jpN16 => exact .inl (opJp_runs _ _)
  case callNzN16 => exact .inl (opCallCond_runs _ _ _)
  case pushBc => exact .inl (opPush_runs _ _)
  case addAN8 => exact .inl (opAluImm_runs _ _ _)
  case rst00 => exact .inl (opRst_runs _ _)
  case retZ => exact .inl (opRetCond_runs _ _)
  case ret => exact .inl (opRet_runs _)
  case jpZN16 => exact .inl (opJpCond_runs _ _ _)
  case prefixCb => exact .inl (opPrefix_runs _)
  case callZN16 => exact .inl (opCallCond_runs _ _ _)
  case callN16 => exact .inl (opCall_runs _ _)
  case adcAN8 => exact .inl (opAluImm_runs _ _ _)
  case rst08 => exact .inl (opRst_runs _ _)
  case retNc => exact .inl (opRetCond_runs _ _)
  case popDe => exact .inl (opPop_runs _ _)
  case jpNcN16 => exact .inl (opJpCond_runs _ _ _)
  case illegalD3 => exact .inr rfl
  case callNcN16 => exact .inl (opCallCond_runs _ _ _)
  case pushDe => exact .inl (opPush_runs _ _)
  case subAN8 => exact .inl (opAluImm_runs _ _ _)
  case rst10 => exact .inl (opRst_runs _ _)
  case retC => exact .inl (opRetCond_runs _ _)
  case reti => exact .inl (opReti_runs _)
  case jpCN16 => exact .inl (opJpCond_runs _ _ _)
  case illegalDB => exact .inr rfl
  case callCN16 => exact .inl (opCallCond_runs _ _ _)
  case illegalDD => exact .inr rfl
  case sbcAN8 => exact .inl (opAluImm_runs _ _ _)
  case rst18 => exact .inl (opRst_runs _ _)
  case ldhIndN8A => exact .inl (opStoreA_runs _ _ (by omega) _)
  case popHl => exact .inl (opPop_runs _ _)
  case ldhIndCA => exact .inl (opStoreA_runs _ _ (by omega) _)
  case illegalE3 => exact .inr rfl
  case illegalE4 => exact .inr rfl
  case pushHl => exact .inl (opPush_runs _ _)
  case andAN8 => exact .inl (opAluImm_runs _ _ _)
  case rst20 => exact .inl (opRst_runs _ _)
  case addSpE8 => exact .inl (opAddSp_runs _ _)
  case jpHl => exact .inl (opJpHl_runs _)
  case ldIndN16A => exact .inl (opStoreA_runs _ _ (by omega) _)
  case illegalEB => exact .inr rfl
  case illegalEC => exact .inr rfl
  case illegalED => exact .inr rfl
  case xorAN8 => exact .inl (opAluImm_runs _ _ _)
  case rst28 => exact .inl (opRst_runs _ _)
  case ldhAIndN8 => exact .inl (opLoadA_runs _ _ (by omega) _)
  case popAf => exact .inl (opPop_runs _ _)
  case ldhAIndC => exact .inl (opLoadA_runs _ _ (by omega) _)
  case di => exact .inl (opDi_runs _)
  case illegalF4 => exact .inr rfl
  case pushAf => exact .inl (opPush_runs _ _)
  case orAN8 => exact .inl (opAluImm_runs _ _ _)
  case rst30 => exact .inl (opRst_runs _ _)
  case ldHlSpE8 => exact .inl (opLdHlSp_runs _ _)
  case ldSpHl => exact .inl (opLdSpHl_runs _)
  case ldAIndN16 => exact .inl (opLoadA_runs _ _ (by omega) _)
  case ei => exact .inl (opEi_runs _)
  case illegalFC => exact .inr rfl
  case illegalFD => exact .inr rfl
  case cpAN8 => exact .inl (opAluImm_runs _ _ _)
  case rst38 => exact .inl (opRst_runs _ _)
  case rlcB => exact .inl (opRot_runs _ _ _)
  case rlcC => exact .inl (opRot_runs _ _ _)
  case rlcD => exact .inl (opRot_runs _ _ _)
  case rlcE => exact .inl (opRot_runs _ _ _)
  case rlcH => exact .inl (opRot_runs _ _ _)
  case rlcL => exact .inl (opRot_runs _ _ _)
  case rlcIndHl => exact .inl (opRot_runs _ _ _)
  case rlcA => exact .inl (opRot_runs _ _ _)
  case rrcB => exact .inl (opRot_runs _ _ _)
  case rrcC => exact .inl (opRot_runs _ _ _)
  case rrcD => exact .inl (opRot_runs _ _ _)
  case rrcE => exact .inl (opRot_runs _ _ _)
  case rrcH => exact .inl (opRot_runs _ _ _)
  case rrcL => exact .inl (opRot_runs _ _ _)
  case rrcIndHl => exact .inl (opRot_runs _ _ _)
  case rrcA => exact .inl (opRot_runs _ _ _)
  case rlB => exact .inl (opRot_runs _ _ _)
  case rlC => exact .inl (opRot_runs _ _ _)
  case rlD => exact .inl (opRot_runs _ _ _)
  case rlE => exact .inl (opRot_runs _ _ _)
  case rlH => exact .inl (opRot_runs _ _ _)
  case rlL => exact .inl (opRot_runs _ _ _)
  case rlIndHl => exact .inl (opRot_runs _ _ _)
  case rlA => exact .inl (opRot_runs _ _ _)
  case rrB => exact .inl (opRot_runs _ _ _)
  case rrC => exact .inl (opRot_runs _ _ _)
  case rrD => exact .inl (opRot_runs _ _ _)
  case rrE => exact .inl (opRot_runs _ _ _)
  case rrH => exact .inl (opRot_runs _ _ _)
  case rrL => exact .inl (opRot_runs _ _ _)
  case rrIndHl => exact .inl (opRot_runs _ _ _)
  case rrA => exact .inl (opRot_runs _ _ _)
  case slaB => exact .inl (opRot_runs _ _ _)
  case slaC => exact .inl (opRot_runs _ _ _)
  case slaD => exact .inl (opRot_runs _ _ _)
  case slaE => exact .inl (opRot_runs _ _ _)
  case slaH => exact .inl (opRot_runs _ _ _)
  case slaL => exact .inl (opRot_runs _ _ _)
  case slaIndHl => exact .inl (opRot_runs _ _ _)
  case slaA => exact .inl (opRot_runs _ _ _)
  case sraB => exact .inl (opRot_runs _ _ _)
  case sraC => exact .inl (opRot_runs _ _ _)
  case sraD => exact .inl (opRot_runs _ _ _)
  case sraE => exact .inl (opRot_runs _ _ _)
  case sraH => exact .inl (opRot_runs _ _ _)
  case sraL => exact .inl (opRot_runs _ _ _)
  case sraIndHl => exact .inl (opRot_runs _ _ _)
  case sraA => exact .inl (opRot_runs _ _ _)
  case swapB => exact .inl (opRot_runs _ _ _)
  case swapC => exact .inl (opRot_runs _ _ _)
  case swapD => exact .inl (opRot_runs _ _ _)
  case swapE => exact .inl (opRot_runs _ _ _)
  case swapH => exact .inl (opRot_runs _ _ _)
  case swapL => exact .inl (opRot_runs _ _ _)
  case swapIndHl => exact .inl (opRot_runs _ _ _)
  case swapA => exact .inl (opRot_runs _ _ _)
  case srlB => exact .inl (opRot_runs _ _ _)
  case srlC => exact .inl (opRot_runs _ _ _)
  case srlD => exact .inl (opRot_runs _ _ _)
  case srlE => exact .inl (opRot_runs _ _ _)
  case srlH => exact .inl (opRot_runs _ _ _)
  case srlL => exact .inl (opRot_runs _ _ _)
  case srlIndHl => exact .inl (opRot_runs _ _ _)
  case srlA => exact .inl (opRot_runs _ _ _)
  case bit0B => exact .inl (opBit_runs _ _ _)
  case bit0C => exact .inl (opBit_runs _ _ _)
  case bit0D => exact .inl (opBit_runs _ _ _)
  case bit0E => exact .inl (opBit_runs _ _ _)
  case bit0H => exact .inl (opBit_runs _ _ _)
  case bit0L => exact .inl (opBit_runs _ _ _)
  case bit0IndHl => exact .inl (opBit_runs _ _ _)
  case bit0A => exact .inl (opBit_runs _ _ _)
  case bit1B => exact .inl (opBit_runs _ _ _)
  case bit1C => exact .inl (opBit_runs _ _ _)
  case bit1D => exact .inl (opBit_runs _ _ _)
  case bit1E => exact .inl (opBit_runs _ _ _)
  case bit1H => exact .inl (opBit_runs _ _ _)
  case bit1L => exact .inl (opBit_runs _ _ _)
  case bit1IndHl => exact .inl (opBit_runs _ _ _)
  case bit1A => exact .inl (opBit_runs _ _ _)
  case bit2B => exact .inl (opBit_runs _ _ _)
  case bit2C => exact .inl (opBit_runs _ _ _)
  case bit2D => exact .inl (opBit_runs _ _ _)
  case bit2E => exact .inl (opBit_runs _ _ _)
  case bit2H => exact .inl (opBit_runs _ _ _)
  case bit2L => exact .inl (opBit_runs _ _ _)
  case bit2IndHl => exact .inl (opBit_runs _ _ _)
  case bit2A => exact .inl (opBit_runs _ _ _)
  case bit3B => exact .inl (opBit_runs _ _ _)
  case bit3C => exact .inl (opBit_runs _ _ _)
  case bit3D => exact .inl (opBit_runs _ _ _)
  case bit3E => exact .inl (opBit_runs _ _ _)
  case bit3H => exact .inl (opBit_runs _ _ _)
  case bit3L => exact .inl (opBit_runs _ _ _)
  case bit3IndHl => exact .inl (opBit_runs _ _ _)
  case bit3A => exact .inl (opBit_runs _ _ _)
  case bit4B => exact .inl (opBit_runs _ _ _)
  case bit4C => exact .inl (opBit_runs _ _ _)
  case bit4D => exact .inl (opBit_runs _ _ _)
  case bit4E => exact .inl (opBit_runs _ _ _)
  case bit4H => exact .inl (opBit_runs _ _ _)
  case bit4L => exact .inl (opBit_runs _ _ _)
  case bit4IndHl => exact .inl (opBit_runs _ _ _)
  case bit4A => exact .inl (opBit_runs _ _ _)
  case bit5B => exact .inl (opBit_runs _ _ _)
  case bit5C => exact .inl (opBit_runs _ _ _)
  case bit5D => exact .inl (opBit_runs _ _ _)
  case bit5E => exact .inl (opBit_runs _ _ _)
  case bit5H => exact .inl (opBit_runs _ _ _)
  case bit5L => exact .inl (opBit_runs _ _ _)
  case bit5IndHl => exact .inl (opBit_runs _ _ _)
  case bit5A => exact .inl (opBit_runs _ _ _)
  case bit6B => exact .inl (opBit_runs _ _ _)
  case bit6C => exact .inl (opBit_runs _ _ _)
  case bit6D => exact .inl (opBit_runs _ _ _)
  case bit6E => exact .inl (opBit_runs _ _ _)
  case bit6H => exact .inl (opBit_runs _ _ _)
  case bit6L => exact .inl (opBit_runs _ _ _)
  case bit6IndHl => exact .inl (opBit_runs _ _ _)
  case bit6A => exact .inl (opBit_runs _ _ _)
  case bit7B => exact .inl (opBit_runs _ _ _)
  case bit7C => exact .inl (opBit_runs _ _ _)
  case bit7D => exact .inl (opBit_runs _ _ _)
  case bit7E => exact .inl (opBit_runs _ _ _)
  case bit7H => exact .inl (opBit_runs _ _ _)
  case bit7L => exact .inl (opBit_runs _ _ _)
  case bit7IndHl => exact .inl (opBit_runs _ _ _)
  case bit7A => exact .inl (opBit_runs _ _ _)
  case res0B => exact .inl (opRes_runs _ _ _)
  case res0C => exact .inl (opRes_runs _ _ _)
  case res0D => exact .inl (opRes_runs _ _ _)
  case res0E => exact .inl (opRes_runs _ _ _)
  case res0H => exact .inl (opRes_runs _ _ _)
  case res0L => exact .inl (opRes_runs _ _ _)
  case res0IndHl => exact .inl (opRes_runs _ _ _)
  case res0A => exact .inl (opRes_runs _ _ _)
  case res1B => exact .inl (opRes_runs _ _ _)
  case res1C => exact .inl (opRes_runs _ _ _)
  case res1D => exact .inl (opRes_runs _ _ _)
  case res1E => exact .inl (opRes_runs _ _ _)
  case res1H => exact .inl (opRes_runs _ _ _)
  case res1L => exact .inl (opRes_runs _ _ _)
  case res1IndHl => exact .inl (opRes_runs _ _ _)
  case res1A => exact .inl (opRes_runs _ _ _)
  case res2B => exact .inl (opRes_runs _ _ _)
  case res2C => exact .inl (opRes_runs _ _ _)
  case res2D => exact .inl (opRes_runs _ _ _)
  case res2E => exact .inl (opRes_runs _ _ _)
  case res2H => exact .inl (opRes_runs _ _ _)
  case res2L => exact .inl (opRes_runs _ _ _)
  case res2IndHl => exact .inl (opRes_runs _ _ _)
  case res2A => exact .inl (opRes_runs _ _ _)
  case res3B => exact .inl (opRes_runs _ _ _)
  case res3C => exact .inl (opRes_runs _ _ _)
  case res3D => exact .inl (opRes_runs _ _ _)
  case res3E => exact .inl (opRes_runs _ _ _)
  case res3H => exact .inl (opRes_runs _ _ _)
  case res3L => exact .inl (opRes_runs _ _ _)
  case res3IndHl => exact .inl (opRes_runs _ _ _)
  case res3A => exact .inl (opRes_runs _ _ _)
  case res4B => exact .inl (opRes_runs _ _ _)
  case res4C => exact .inl (opRes_runs _ _ _)
  case res4D => exact .inl (opRes_runs _ _ _)
  case res4E => exact .inl (opRes_runs _ _ _)
  case res4H => exact .inl (opRes_runs _ _ _)
  case res4L => exact .inl (opRes_runs _ _ _)
  case res4IndHl => exact .inl (opRes_runs _ _ _)
  case res4A => exact .inl (opRes_runs _ _ _)
  case res5B => exact .inl (opRes_runs _ _ _)
  case res5C => exact .inl (opRes_runs _ _ _)
  case res5D => exact .inl (opRes_runs _ _ _)
  case res5E => exact .inl (opRes_runs _ _ _)
  case res5H => exact .inl (opRes_runs _ _ _)
  case res5L => exact .inl (opRes_runs _ _ _)
  case res5IndHl => exact .inl (opRes_runs _ _ _)
  case res5A => exact .inl (opRes_runs _ _ _)
  case res6B => exact .inl (opRes_runs _ _ _)
  case res6C => exact .inl (opRes_runs _ _ _)
  case res6D => exact .inl (opRes_runs _ _ _)
  case res6E => exact .inl (opRes_runs _ _ _)
  case res6H => exact .inl (opRes_runs _ _ _)
  case res6L => exact .inl (opRes_runs _ _ _)
  case res6IndHl => exact .inl (opRes_runs _ _ _)
  case res6A => exact .inl (opRes_runs _ _ _)
  case res7B => exact .inl (opRes_runs _ _ _)
  case res7C => exact .inl (opRes_runs _ _ _)
  case res7D => exact .inl (opRes_runs _ _ _)
  case res7E => exact .inl (opRes_runs _ _ _)
  case res7H => exact .inl (opRes_runs _ _ _)
  case res7L => exact .inl (opRes_runs _ _ _)
  case res7IndHl => exact .inl (opRes_runs _ _ _)
  case res7A => exact .inl (opRes_runs _ _ _)
  case set0B => exact .inl (opSet_runs _ _ _)
  case set0C => exact .inl (opSet_runs _ _ _)
  case set0D => exact .inl (opSet_runs _ _ _)
  case set0E => exact .inl (opSet_runs _ _ _)
  case set0H => exact .inl (opSet_runs _ _ _)
  case set0L => exact .inl (opSet_runs _ _ _)
  case set0IndHl => exact .inl (opSet_runs _ _ _)
  case set0A => exact .inl (opSet_runs _ _ _)
  case set1B => exact .inl (opSet_runs _ _ _)
  case set1C => exact .inl (opSet_runs _ _ _)
  case set1D => exact .inl (opSet_runs _ _ _)
  case set1E => exact .inl (opSet_runs _ _ _)
  case set1H => exact .inl (opSet_runs _ _ _)
  case set1L => exact .inl (opSet_runs _ _ _)
  case set1IndHl => exact .inl (opSet_runs _ _ _)
  case set1A => exact .inl (opSet_runs _ _ _)
  case set2B => exact .inl (opSet_runs _ _ _)
  case set2C => exact .inl (opSet_runs _ _ _)
  case set2D => exact .inl (opSet_runs _ _ _)
  case set2E => exact .inl (opSet_runs _ _ _)
  case set2H => exact .inl (opSet_runs _ _ _)
  case set2L => exact .inl (opSet_runs _ _ _)
  case set2IndHl => exact .inl (opSet_runs _ _ _)
  case set2A => exact .inl (opSet_runs _ _ _)
  case set3B => exact .inl (opSet_runs _ _ _)
  case set3C => exact .inl (opSet_runs _ _ _)
  case set3D => exact .inl (opSet_runs _ _ _)
  case set3E => exact .inl (opSet_runs _ _ _)
  case set3H => exact .inl (opSet_runs _ _ _)
  case set3L => exact .inl (opSet_runs _ _ _)
  case set3IndHl => exact .inl (opSet_runs _ _ _)
  case set3A => exact .inl (opSet_runs _ _ _)
  case set4B => exact .inl (opSet_runs _ _ _)
  case set4C => exact .inl (opSet_runs _ _ _)
  case set4D => exact .inl (opSet_runs _ _ _)
  case set4E => exact .inl (opSet_runs _ _ _)
  case set4H => exact .inl (opSet_runs _ _ _)
  case set4L => exact .inl (opSet_runs _ _ _)
  case set4IndHl => exact .inl (opSet_runs _ _ _)
  case set4A => exact .inl (opSet_runs _ _ _)
  case set5B => exact .inl (opSet_runs _ _ _)
  case set5C => exact .inl (opSet_runs _ _ _)
  case set5D => exact .inl (opSet_runs _ _ _)
  case set5E => exact .inl (opSet_runs _ _ _)
  case set5H => exact .inl (opSet_runs _ _ _)
  case set5L => exact .inl (opSet_runs _ _ _)
  case set5IndHl => exact .inl (opSet_runs _ _ _)
  case set5A => exact .inl (opSet_runs _ _ _)
  case set6B => exact .inl (opSet_runs _ _ _)
  case set6C => exact .inl (opSet_runs _ _ _)
  case set6D => exact .inl (opSet_runs _ _ _)
  case set6E => exact .inl (opSet_runs _ _ _)
  case set6H => exact .inl (opSet_runs _ _ _)
  case set6L => exact .inl (opSet_runs _ _ _)
  case set6IndHl => exact .inl (opSet_runs _ _ _)
  case set6A => exact .inl (opSet_runs _ _ _)
  case set7B => exact .inl (opSet_runs _ _ _)
  case set7C => exact .inl (opSet_runs _ _ _)
  case set7D => exact .inl (opSet_runs _ _ _)
  case set7E => exact .inl (opSet_runs _ _ _)
  case set7H => exact .inl (opSet_runs _ _ _)
  case set7L => exact .inl (opSet_runs _ _ _)
  case set7IndHl => exact .inl (opSet_runs _ _ _)
  case set7A => exact .inl (opSet_runs _ _ _)

/-- Executing an instruction always answers a next state. -/
theorem exec_next (i : Instr) (s : State) : ∃ t, exec i s = .next t := by
  rcases exec_cases i s with ⟨t, h, -⟩ | h
  · exact ⟨t, h⟩
  · exact ⟨_, h⟩

end Sys2Proof.Machine
end

