-- ==== Sys2Proof/Laws/Frame.lean ====
section
/-! SUPPORT. The frames of the shapes instructions end in: flags written, a register written, or both; and the ALU and
the instruction families as functions of their table fields. -/

namespace Sys2Proof.Machine

/-! ## Shapes -/

/-- Nothing but the ticks owed. -/
theorem frame_wait (s : State) (n : Nat) : CpuFrame s (s.setWait n) [] ∧ KeptOutside s (s.setWait n) := by
  simp [CpuFrame, KeptRegs, KeptControl, KeptPower, KeptOutside]

/-- The flags only. -/
theorem frame_flags (s : State) (x : Flags) (n : Nat) :
    CpuFrame s ((s.setFlags x).setWait n) [] ∧ KeptOutside s ((s.setFlags x).setWait n) := by
  simp [CpuFrame, KeptRegs, KeptControl, KeptPower, KeptOutside]

/-- One register only. -/
theorem frame_reg (s : State) (r : Reg) (v : Byte) (n : Nat) :
    CpuFrame s ((s.setReg r v).setWait n) [r] ∧ KeptOutside s ((s.setReg r v).setWait n) ∧
      ((s.setReg r v).setWait n).cpu.f = s.cpu.f := by
  simp [CpuFrame, KeptRegs, KeptControl, KeptPower, KeptOutside, State.setReg_reg]
  intro x h e
  exact absurd e h

/-- The flags and one register. -/
theorem frame_flags_reg (s : State) (x : Flags) (r : Reg) (v : Byte) (n : Nat) :
    CpuFrame s (((s.setFlags x).setReg r v).setWait n) [r] ∧
      KeptOutside s (((s.setFlags x).setReg r v).setWait n) ∧
      (((s.setFlags x).setReg r v).setWait n).cpu.f = x.pack := by
  simp [CpuFrame, KeptRegs, KeptControl, KeptPower, KeptOutside, State.setReg_reg]
  intro y h e
  exact absurd e h

/-- The CPU's side of a store. -/
theorem frame_store (s : State) (a : Word) (v : Byte) (n : Nat) :
    CpuFrame s ((busWrite s a v).setWait n) [] ∧ ((busWrite s a v).setWait n).cpu.f = s.cpu.f := by
  simp [CpuFrame, KeptRegs, KeptControl, KeptPower]

/-- The CPU's side of a store after the flags. -/
theorem frame_flags_store (s : State) (x : Flags) (a : Word) (v : Byte) (n : Nat) :
    CpuFrame s ((busWrite (s.setFlags x) a v).setWait n) [] ∧
      ((busWrite (s.setFlags x) a v).setWait n).cpu.f = x.pack := by
  simp [CpuFrame, KeptRegs, KeptControl, KeptPower]

/-! ## Families by their table fields -/

theorem exec_ld (dst x : Slot) (h : ¬ (dst = .hlInd ∧ x = .hlInd)) (s : State) :
    exec (Instr.ld dst x) s = opLd dst x s := by
  rcases dst with dst | _ <;> rcases x with x | _
  · cases dst <;> cases x <;> rfl
  · cases dst <;> rfl
  · cases x <;> rfl
  · exact absurd ⟨rfl, rfl⟩ h

theorem exec_ldImm (dst : Slot) (n : Byte) (s : State) : exec (Instr.ldImm dst n) s = opLdImm dst n s := by
  rcases dst with dst | _
  · cases dst <;> rfl
  · rfl

theorem exec_inc (x : Slot) (s : State) : exec (Instr.inc x) s = opInc x s := by
  rcases x with x | _
  · cases x <;> rfl
  · rfl

theorem exec_dec (x : Slot) (s : State) : exec (Instr.dec x) s = opDec x s := by
  rcases x with x | _
  · cases x <;> rfl
  · rfl

theorem exec_alu (op : AluOp) (x : Slot) (s : State) : exec (Instr.alu op x) s = opAlu op x s := by
  rcases x with x | _
  · cases op <;> cases x <;> rfl
  · cases op <;> rfl

theorem exec_aluImm (op : AluOp) (n : Byte) (s : State) : exec (Instr.aluImm op n) s = opAluImm op n s := by
  cases op <;> rfl

theorem exec_rot (op : RotOp) (x : Slot) (s : State) : exec (Instr.rot op x) s = opRot op x s := by
  rcases x with x | _
  · cases op <;> cases x <;> rfl
  · cases op <;> rfl

theorem exec_bit (b : Fin 8) (x : Slot) (s : State) : exec (Instr.bit b.val x) s = opBit b.val x s := by
  rcases x with x | _
  · fin_cases b <;> cases x <;> rfl
  · fin_cases b <;> rfl

theorem exec_res (b : Fin 8) (x : Slot) (s : State) : exec (Instr.res b.val x) s = opRes b.val x s := by
  rcases x with x | _
  · fin_cases b <;> cases x <;> rfl
  · fin_cases b <;> rfl

theorem exec_set (b : Fin 8) (x : Slot) (s : State) : exec (Instr.set b.val x) s = opSet b.val x s := by
  rcases x with x | _
  · fin_cases b <;> cases x <;> rfl
  · fin_cases b <;> rfl

theorem exec_ldPair (p : Pair) (nn : Word) (s : State) : exec (Instr.ldPair p nn) s = opLdPair p nn s := by
  cases p <;> rfl

theorem exec_incPair (p : Pair) (s : State) : exec (Instr.incPair p) s = opIncPair p s := by cases p <;> rfl

theorem exec_decPair (p : Pair) (s : State) : exec (Instr.decPair p) s = opDecPair p s := by cases p <;> rfl

theorem exec_addHl (p : Pair) (s : State) : exec (Instr.addHl p) s = opAddHl p s := by cases p <;> rfl

theorem exec_push (p : StackPair) (s : State) : exec (Instr.push p) s = opPush p s := by cases p <;> rfl

theorem exec_pop (p : StackPair) (s : State) : exec (Instr.pop p) s = opPop p s := by cases p <;> rfl

theorem exec_jrCond (cc : Cond) (e : Byte) (s : State) : exec (Instr.jrCond cc e) s = opJrCond cc e s := by
  cases cc <;> rfl

theorem exec_jpCond (cc : Cond) (nn : Word) (s : State) : exec (Instr.jpCond cc nn) s = opJpCond cc nn s := by
  cases cc <;> rfl

theorem exec_callCond (cc : Cond) (nn : Word) (s : State) : exec (Instr.callCond cc nn) s = opCallCond cc nn s := by
  cases cc <;> rfl

theorem exec_retCond (cc : Cond) (s : State) : exec (Instr.retCond cc) s = opRetCond cc s := by cases cc <;> rfl

end Sys2Proof.Machine
end

