-- ==== Sys2Proof/Laws/PerInstr.lean ====
section
/-! SUPPORT. The per-instruction family `EncodedLength`: an encoding starts with the instruction's first byte and has the
length that this byte tells (30_encoding.md R154); the row `PREFIX_CB` alone is one byte (log entry 9). -/

namespace Sys2Proof.Laws

/-- The encoding of `i` is not empty and has the length its first byte tells. -/
def EncodedLength.Statement (i : Instr) : Prop :=
  ∃ op rest, encode i = op :: rest ∧ (i.wellFormed = true → rest.length + 1 = opLength op)

theorem EncodedLength.nop : EncodedLength.Statement .nop :=
  ⟨_, _, rfl, fun _ => (by decide : 1 = opLength 0x00#8)⟩

theorem EncodedLength.ldBcN16 (nn : Word) : EncodedLength.Statement (.ldBcN16 nn) :=
  ⟨_, _, rfl, fun _ => (by decide : 3 = opLength 0x01#8)⟩

theorem EncodedLength.ldIndBcA : EncodedLength.Statement .ldIndBcA :=
  ⟨_, _, rfl, fun _ => (by decide : 1 = opLength 0x02#8)⟩

theorem EncodedLength.incBc : EncodedLength.Statement .incBc :=
  ⟨_, _, rfl, fun _ => (by decide : 1 = opLength 0x03#8)⟩

theorem EncodedLength.incB : EncodedLength.Statement .incB :=
  ⟨_, _, rfl, fun _ => (by decide : 1 = opLength 0x04#8)⟩

theorem EncodedLength.decB : EncodedLength.Statement .decB :=
  ⟨_, _, rfl, fun _ => (by decide : 1 = opLength 0x05#8)⟩

theorem EncodedLength.ldBN8 (n : Byte) : EncodedLength.Statement (.ldBN8 n) :=
  ⟨_, _, rfl, fun _ => (by decide : 2 = opLength 0x06#8)⟩

theorem EncodedLength.rlca : EncodedLength.Statement .rlca :=
  ⟨_, _, rfl, fun _ => (by decide : 1 = opLength 0x07#8)⟩

theorem EncodedLength.ldIndN16Sp (nn : Word) : EncodedLength.Statement (.ldIndN16Sp nn) :=
  ⟨_, _, rfl, fun _ => (by decide : 3 = opLength 0x08#8)⟩

theorem EncodedLength.addHlBc : EncodedLength.Statement .addHlBc :=
  ⟨_, _, rfl, fun _ => (by decide : 1 = opLength 0x09#8)⟩

theorem EncodedLength.ldAIndBc : EncodedLength.Statement .ldAIndBc :=
  ⟨_, _, rfl, fun _ => (by decide : 1 = opLength 0x0A#8)⟩

theorem EncodedLength.decBc : EncodedLength.Statement .decBc :=
  ⟨_, _, rfl, fun _ => (by decide : 1 = opLength 0x0B#8)⟩

theorem EncodedLength.incC : EncodedLength.Statement .incC :=
  ⟨_, _, rfl, fun _ => (by decide : 1 = opLength 0x0C#8)⟩

theorem EncodedLength.decC : EncodedLength.Statement .decC :=
  ⟨_, _, rfl, fun _ => (by decide : 1 = opLength 0x0D#8)⟩

theorem EncodedLength.ldCN8 (n : Byte) : EncodedLength.Statement (.ldCN8 n) :=
  ⟨_, _, rfl, fun _ => (by decide : 2 = opLength 0x0E#8)⟩

theorem EncodedLength.rrca : EncodedLength.Statement .rrca :=
  ⟨_, _, rfl, fun _ => (by decide : 1 = opLength 0x0F#8)⟩

theorem EncodedLength.stop : EncodedLength.Statement .stop :=
  ⟨_, _, rfl, fun _ => (by decide : 1 = opLength 0x10#8)⟩

theorem EncodedLength.ldDeN16 (nn : Word) : EncodedLength.Statement (.ldDeN16 nn) :=
  ⟨_, _, rfl, fun _ => (by decide : 3 = opLength 0x11#8)⟩

theorem EncodedLength.ldIndDeA : EncodedLength.Statement .ldIndDeA :=
  ⟨_, _, rfl, fun _ => (by decide : 1 = opLength 0x12#8)⟩

theorem EncodedLength.incDe : EncodedLength.Statement .incDe :=
  ⟨_, _, rfl, fun _ => (by decide : 1 = opLength 0x13#8)⟩

theorem EncodedLength.incD : EncodedLength.Statement .incD :=
  ⟨_, _, rfl, fun _ => (by decide : 1 = opLength 0x14#8)⟩

theorem EncodedLength.decD : EncodedLength.Statement .decD :=
  ⟨_, _, rfl, fun _ => (by decide : 1 = opLength 0x15#8)⟩

theorem EncodedLength.ldDN8 (n : Byte) : EncodedLength.Statement (.ldDN8 n) :=
  ⟨_, _, rfl, fun _ => (by decide : 2 = opLength 0x16#8)⟩

theorem EncodedLength.rla : EncodedLength.Statement .rla :=
  ⟨_, _, rfl, fun _ => (by decide : 1 = opLength 0x17#8)⟩

theorem EncodedLength.jrE8 (e : Byte) : EncodedLength.Statement (.jrE8 e) :=
  ⟨_, _, rfl, fun _ => (by decide : 2 = opLength 0x18#8)⟩

theorem EncodedLength.addHlDe : EncodedLength.Statement .addHlDe :=
  ⟨_, _, rfl, fun _ => (by decide : 1 = opLength 0x19#8)⟩

theorem EncodedLength.ldAIndDe : EncodedLength.Statement .ldAIndDe :=
  ⟨_, _, rfl, fun _ => (by decide : 1 = opLength 0x1A#8)⟩

theorem EncodedLength.decDe : EncodedLength.Statement .decDe :=
  ⟨_, _, rfl, fun _ => (by decide : 1 = opLength 0x1B#8)⟩

theorem EncodedLength.incE : EncodedLength.Statement .incE :=
  ⟨_, _, rfl, fun _ => (by decide : 1 = opLength 0x1C#8)⟩

theorem EncodedLength.decE : EncodedLength.Statement .decE :=
  ⟨_, _, rfl, fun _ => (by decide : 1 = opLength 0x1D#8)⟩

theorem EncodedLength.ldEN8 (n : Byte) : EncodedLength.Statement (.ldEN8 n) :=
  ⟨_, _, rfl, fun _ => (by decide : 2 = opLength 0x1E#8)⟩

theorem EncodedLength.rra : EncodedLength.Statement .rra :=
  ⟨_, _, rfl, fun _ => (by decide : 1 = opLength 0x1F#8)⟩

theorem EncodedLength.jrNzE8 (e : Byte) : EncodedLength.Statement (.jrNzE8 e) :=
  ⟨_, _, rfl, fun _ => (by decide : 2 = opLength 0x20#8)⟩

theorem EncodedLength.ldHlN16 (nn : Word) : EncodedLength.Statement (.ldHlN16 nn) :=
  ⟨_, _, rfl, fun _ => (by decide : 3 = opLength 0x21#8)⟩

theorem EncodedLength.ldIndHlIncA : EncodedLength.Statement .ldIndHlIncA :=
  ⟨_, _, rfl, fun _ => (by decide : 1 = opLength 0x22#8)⟩

theorem EncodedLength.incHl : EncodedLength.Statement .incHl :=
  ⟨_, _, rfl, fun _ => (by decide : 1 = opLength 0x23#8)⟩

theorem EncodedLength.incH : EncodedLength.Statement .incH :=
  ⟨_, _, rfl, fun _ => (by decide : 1 = opLength 0x24#8)⟩

theorem EncodedLength.decH : EncodedLength.Statement .decH :=
  ⟨_, _, rfl, fun _ => (by decide : 1 = opLength 0x25#8)⟩

theorem EncodedLength.ldHN8 (n : Byte) : EncodedLength.Statement (.ldHN8 n) :=
  ⟨_, _, rfl, fun _ => (by decide : 2 = opLength 0x26#8)⟩

theorem EncodedLength.daa : EncodedLength.Statement .daa :=
  ⟨_, _, rfl, fun _ => (by decide : 1 = opLength 0x27#8)⟩

theorem EncodedLength.jrZE8 (e : Byte) : EncodedLength.Statement (.jrZE8 e) :=
  ⟨_, _, rfl, fun _ => (by decide : 2 = opLength 0x28#8)⟩

theorem EncodedLength.addHlHl : EncodedLength.Statement .addHlHl :=
  ⟨_, _, rfl, fun _ => (by decide : 1 = opLength 0x29#8)⟩

theorem EncodedLength.ldAIndHlInc : EncodedLength.Statement .ldAIndHlInc :=
  ⟨_, _, rfl, fun _ => (by decide : 1 = opLength 0x2A#8)⟩

theorem EncodedLength.decHl : EncodedLength.Statement .decHl :=
  ⟨_, _, rfl, fun _ => (by decide : 1 = opLength 0x2B#8)⟩

theorem EncodedLength.incL : EncodedLength.Statement .incL :=
  ⟨_, _, rfl, fun _ => (by decide : 1 = opLength 0x2C#8)⟩

theorem EncodedLength.decL : EncodedLength.Statement .decL :=
  ⟨_, _, rfl, fun _ => (by decide : 1 = opLength 0x2D#8)⟩

theorem EncodedLength.ldLN8 (n : Byte) : EncodedLength.Statement (.ldLN8 n) :=
  ⟨_, _, rfl, fun _ => (by decide : 2 = opLength 0x2E#8)⟩

theorem EncodedLength.cpl : EncodedLength.Statement .cpl :=
  ⟨_, _, rfl, fun _ => (by decide : 1 = opLength 0x2F#8)⟩

theorem EncodedLength.jrNcE8 (e : Byte) : EncodedLength.Statement (.jrNcE8 e) :=
  ⟨_, _, rfl, fun _ => (by decide : 2 = opLength 0x30#8)⟩

theorem EncodedLength.ldSpN16 (nn : Word) : EncodedLength.Statement (.ldSpN16 nn) :=
  ⟨_, _, rfl, fun _ => (by decide : 3 = opLength 0x31#8)⟩

theorem EncodedLength.ldIndHlDecA : EncodedLength.Statement .ldIndHlDecA :=
  ⟨_, _, rfl, fun _ => (by decide : 1 = opLength 0x32#8)⟩

theorem EncodedLength.incSp : EncodedLength.Statement .incSp :=
  ⟨_, _, rfl, fun _ => (by decide : 1 = opLength 0x33#8)⟩

theorem EncodedLength.incIndHl : EncodedLength.Statement .incIndHl :=
  ⟨_, _, rfl, fun _ => (by decide : 1 = opLength 0x34#8)⟩

theorem EncodedLength.decIndHl : EncodedLength.Statement .decIndHl :=
  ⟨_, _, rfl, fun _ => (by decide : 1 = opLength 0x35#8)⟩

theorem EncodedLength.ldIndHlN8 (n : Byte) : EncodedLength.Statement (.ldIndHlN8 n) :=
  ⟨_, _, rfl, fun _ => (by decide : 2 = opLength 0x36#8)⟩

theorem EncodedLength.scf : EncodedLength.Statement .scf :=
  ⟨_, _, rfl, fun _ => (by decide : 1 = opLength 0x37#8)⟩

theorem EncodedLength.jrCE8 (e : Byte) : EncodedLength.Statement (.jrCE8 e) :=
  ⟨_, _, rfl, fun _ => (by decide : 2 = opLength 0x38#8)⟩

theorem EncodedLength.addHlSp : EncodedLength.Statement .addHlSp :=
  ⟨_, _, rfl, fun _ => (by decide : 1 = opLength 0x39#8)⟩

theorem EncodedLength.ldAIndHlDec : EncodedLength.Statement .ldAIndHlDec :=
  ⟨_, _, rfl, fun _ => (by decide : 1 = opLength 0x3A#8)⟩

theorem EncodedLength.decSp : EncodedLength.Statement .decSp :=
  ⟨_, _, rfl, fun _ => (by decide : 1 = opLength 0x3B#8)⟩

theorem EncodedLength.incA : EncodedLength.Statement .incA :=
  ⟨_, _, rfl, fun _ => (by decide : 1 = opLength 0x3C#8)⟩

theorem EncodedLength.decA : EncodedLength.Statement .decA :=
  ⟨_, _, rfl, fun _ => (by decide : 1 = opLength 0x3D#8)⟩

theorem EncodedLength.ldAN8 (n : Byte) : EncodedLength.Statement (.ldAN8 n) :=
  ⟨_, _, rfl, fun _ => (by decide : 2 = opLength 0x3E#8)⟩

theorem EncodedLength.ccf : EncodedLength.Statement .ccf :=
  ⟨_, _, rfl, fun _ => (by decide : 1 = opLength 0x3F#8)⟩

theorem EncodedLength.ldBB : EncodedLength.Statement .ldBB :=
  ⟨_, _, rfl, fun _ => (by decide : 1 = opLength 0x40#8)⟩

theorem EncodedLength.ldBC : EncodedLength.Statement .ldBC :=
  ⟨_, _, rfl, fun _ => (by decide : 1 = opLength 0x41#8)⟩

theorem EncodedLength.ldBD : EncodedLength.Statement .ldBD :=
  ⟨_, _, rfl, fun _ => (by decide : 1 = opLength 0x42#8)⟩

theorem EncodedLength.ldBE : EncodedLength.Statement .ldBE :=
  ⟨_, _, rfl, fun _ => (by decide : 1 = opLength 0x43#8)⟩

theorem EncodedLength.ldBH : EncodedLength.Statement .ldBH :=
  ⟨_, _, rfl, fun _ => (by decide : 1 = opLength 0x44#8)⟩

theorem EncodedLength.ldBL : EncodedLength.Statement .ldBL :=
  ⟨_, _, rfl, fun _ => (by decide : 1 = opLength 0x45#8)⟩

theorem EncodedLength.ldBIndHl : EncodedLength.Statement .ldBIndHl :=
  ⟨_, _, rfl, fun _ => (by decide : 1 = opLength 0x46#8)⟩

theorem EncodedLength.ldBA : EncodedLength.Statement .ldBA :=
  ⟨_, _, rfl, fun _ => (by decide : 1 = opLength 0x47#8)⟩

theorem EncodedLength.ldCB : EncodedLength.Statement .ldCB :=
  ⟨_, _, rfl, fun _ => (by decide : 1 = opLength 0x48#8)⟩

theorem EncodedLength.ldCC : EncodedLength.Statement .ldCC :=
  ⟨_, _, rfl, fun _ => (by decide : 1 = opLength 0x49#8)⟩

theorem EncodedLength.ldCD : EncodedLength.Statement .ldCD :=
  ⟨_, _, rfl, fun _ => (by decide : 1 = opLength 0x4A#8)⟩

theorem EncodedLength.ldCE : EncodedLength.Statement .ldCE :=
  ⟨_, _, rfl, fun _ => (by decide : 1 = opLength 0x4B#8)⟩

theorem EncodedLength.ldCH : EncodedLength.Statement .ldCH :=
  ⟨_, _, rfl, fun _ => (by decide : 1 = opLength 0x4C#8)⟩

theorem EncodedLength.ldCL : EncodedLength.Statement .ldCL :=
  ⟨_, _, rfl, fun _ => (by decide : 1 = opLength 0x4D#8)⟩

theorem EncodedLength.ldCIndHl : EncodedLength.Statement .ldCIndHl :=
  ⟨_, _, rfl, fun _ => (by decide : 1 = opLength 0x4E#8)⟩

theorem EncodedLength.ldCA : EncodedLength.Statement .ldCA :=
  ⟨_, _, rfl, fun _ => (by decide : 1 = opLength 0x4F#8)⟩

theorem EncodedLength.ldDB : EncodedLength.Statement .ldDB :=
  ⟨_, _, rfl, fun _ => (by decide : 1 = opLength 0x50#8)⟩

theorem EncodedLength.ldDC : EncodedLength.Statement .ldDC :=
  ⟨_, _, rfl, fun _ => (by decide : 1 = opLength 0x51#8)⟩

theorem EncodedLength.ldDD : EncodedLength.Statement .ldDD :=
  ⟨_, _, rfl, fun _ => (by decide : 1 = opLength 0x52#8)⟩

theorem EncodedLength.ldDE : EncodedLength.Statement .ldDE :=
  ⟨_, _, rfl, fun _ => (by decide : 1 = opLength 0x53#8)⟩

theorem EncodedLength.ldDH : EncodedLength.Statement .ldDH :=
  ⟨_, _, rfl, fun _ => (by decide : 1 = opLength 0x54#8)⟩

theorem EncodedLength.ldDL : EncodedLength.Statement .ldDL :=
  ⟨_, _, rfl, fun _ => (by decide : 1 = opLength 0x55#8)⟩

theorem EncodedLength.ldDIndHl : EncodedLength.Statement .ldDIndHl :=
  ⟨_, _, rfl, fun _ => (by decide : 1 = opLength 0x56#8)⟩

theorem EncodedLength.ldDA : EncodedLength.Statement .ldDA :=
  ⟨_, _, rfl, fun _ => (by decide : 1 = opLength 0x57#8)⟩

theorem EncodedLength.ldEB : EncodedLength.Statement .ldEB :=
  ⟨_, _, rfl, fun _ => (by decide : 1 = opLength 0x58#8)⟩

theorem EncodedLength.ldEC : EncodedLength.Statement .ldEC :=
  ⟨_, _, rfl, fun _ => (by decide : 1 = opLength 0x59#8)⟩

theorem EncodedLength.ldED : EncodedLength.Statement .ldED :=
  ⟨_, _, rfl, fun _ => (by decide : 1 = opLength 0x5A#8)⟩

theorem EncodedLength.ldEE : EncodedLength.Statement .ldEE :=
  ⟨_, _, rfl, fun _ => (by decide : 1 = opLength 0x5B#8)⟩

theorem EncodedLength.ldEH : EncodedLength.Statement .ldEH :=
  ⟨_, _, rfl, fun _ => (by decide : 1 = opLength 0x5C#8)⟩

theorem EncodedLength.ldEL : EncodedLength.Statement .ldEL :=
  ⟨_, _, rfl, fun _ => (by decide : 1 = opLength 0x5D#8)⟩

theorem EncodedLength.ldEIndHl : EncodedLength.Statement .ldEIndHl :=
  ⟨_, _, rfl, fun _ => (by decide : 1 = opLength 0x5E#8)⟩

theorem EncodedLength.ldEA : EncodedLength.Statement .ldEA :=
  ⟨_, _, rfl, fun _ => (by decide : 1 = opLength 0x5F#8)⟩

theorem EncodedLength.ldHB : EncodedLength.Statement .ldHB :=
  ⟨_, _, rfl, fun _ => (by decide : 1 = opLength 0x60#8)⟩

theorem EncodedLength.ldHC : EncodedLength.Statement .ldHC :=
  ⟨_, _, rfl, fun _ => (by decide : 1 = opLength 0x61#8)⟩

theorem EncodedLength.ldHD : EncodedLength.Statement .ldHD :=
  ⟨_, _, rfl, fun _ => (by decide : 1 = opLength 0x62#8)⟩

theorem EncodedLength.ldHE : EncodedLength.Statement .ldHE :=
  ⟨_, _, rfl, fun _ => (by decide : 1 = opLength 0x63#8)⟩

theorem EncodedLength.ldHH : EncodedLength.Statement .ldHH :=
  ⟨_, _, rfl, fun _ => (by decide : 1 = opLength 0x64#8)⟩

theorem EncodedLength.ldHL : EncodedLength.Statement .ldHL :=
  ⟨_, _, rfl, fun _ => (by decide : 1 = opLength 0x65#8)⟩

theorem EncodedLength.ldHIndHl : EncodedLength.Statement .ldHIndHl :=
  ⟨_, _, rfl, fun _ => (by decide : 1 = opLength 0x66#8)⟩

theorem EncodedLength.ldHA : EncodedLength.Statement .ldHA :=
  ⟨_, _, rfl, fun _ => (by decide : 1 = opLength 0x67#8)⟩

theorem EncodedLength.ldLB : EncodedLength.Statement .ldLB :=
  ⟨_, _, rfl, fun _ => (by decide : 1 = opLength 0x68#8)⟩

theorem EncodedLength.ldLC : EncodedLength.Statement .ldLC :=
  ⟨_, _, rfl, fun _ => (by decide : 1 = opLength 0x69#8)⟩

theorem EncodedLength.ldLD : EncodedLength.Statement .ldLD :=
  ⟨_, _, rfl, fun _ => (by decide : 1 = opLength 0x6A#8)⟩

theorem EncodedLength.ldLE : EncodedLength.Statement .ldLE :=
  ⟨_, _, rfl, fun _ => (by decide : 1 = opLength 0x6B#8)⟩

theorem EncodedLength.ldLH : EncodedLength.Statement .ldLH :=
  ⟨_, _, rfl, fun _ => (by decide : 1 = opLength 0x6C#8)⟩

theorem EncodedLength.ldLL : EncodedLength.Statement .ldLL :=
  ⟨_, _, rfl, fun _ => (by decide : 1 = opLength 0x6D#8)⟩

theorem EncodedLength.ldLIndHl : EncodedLength.Statement .ldLIndHl :=
  ⟨_, _, rfl, fun _ => (by decide : 1 = opLength 0x6E#8)⟩

theorem EncodedLength.ldLA : EncodedLength.Statement .ldLA :=
  ⟨_, _, rfl, fun _ => (by decide : 1 = opLength 0x6F#8)⟩

theorem EncodedLength.ldIndHlB : EncodedLength.Statement .ldIndHlB :=
  ⟨_, _, rfl, fun _ => (by decide : 1 = opLength 0x70#8)⟩

theorem EncodedLength.ldIndHlC : EncodedLength.Statement .ldIndHlC :=
  ⟨_, _, rfl, fun _ => (by decide : 1 = opLength 0x71#8)⟩

theorem EncodedLength.ldIndHlD : EncodedLength.Statement .ldIndHlD :=
  ⟨_, _, rfl, fun _ => (by decide : 1 = opLength 0x72#8)⟩

theorem EncodedLength.ldIndHlE : EncodedLength.Statement .ldIndHlE :=
  ⟨_, _, rfl, fun _ => (by decide : 1 = opLength 0x73#8)⟩

theorem EncodedLength.ldIndHlH : EncodedLength.Statement .ldIndHlH :=
  ⟨_, _, rfl, fun _ => (by decide : 1 = opLength 0x74#8)⟩

theorem EncodedLength.ldIndHlL : EncodedLength.Statement .ldIndHlL :=
  ⟨_, _, rfl, fun _ => (by decide : 1 = opLength 0x75#8)⟩

theorem EncodedLength.halt : EncodedLength.Statement .halt :=
  ⟨_, _, rfl, fun _ => (by decide : 1 = opLength 0x76#8)⟩

theorem EncodedLength.ldIndHlA : EncodedLength.Statement .ldIndHlA :=
  ⟨_, _, rfl, fun _ => (by decide : 1 = opLength 0x77#8)⟩

theorem EncodedLength.ldAB : EncodedLength.Statement .ldAB :=
  ⟨_, _, rfl, fun _ => (by decide : 1 = opLength 0x78#8)⟩

theorem EncodedLength.ldAC : EncodedLength.Statement .ldAC :=
  ⟨_, _, rfl, fun _ => (by decide : 1 = opLength 0x79#8)⟩

theorem EncodedLength.ldAD : EncodedLength.Statement .ldAD :=
  ⟨_, _, rfl, fun _ => (by decide : 1 = opLength 0x7A#8)⟩

theorem EncodedLength.ldAE : EncodedLength.Statement .ldAE :=
  ⟨_, _, rfl, fun _ => (by decide : 1 = opLength 0x7B#8)⟩

theorem EncodedLength.ldAH : EncodedLength.Statement .ldAH :=
  ⟨_, _, rfl, fun _ => (by decide : 1 = opLength 0x7C#8)⟩

theorem EncodedLength.ldAL : EncodedLength.Statement .ldAL :=
  ⟨_, _, rfl, fun _ => (by decide : 1 = opLength 0x7D#8)⟩

theorem EncodedLength.ldAIndHl : EncodedLength.Statement .ldAIndHl :=
  ⟨_, _, rfl, fun _ => (by decide : 1 = opLength 0x7E#8)⟩

theorem EncodedLength.ldAA : EncodedLength.Statement .ldAA :=
  ⟨_, _, rfl, fun _ => (by decide : 1 = opLength 0x7F#8)⟩

theorem EncodedLength.addAB : EncodedLength.Statement .addAB :=
  ⟨_, _, rfl, fun _ => (by decide : 1 = opLength 0x80#8)⟩

theorem EncodedLength.addAC : EncodedLength.Statement .addAC :=
  ⟨_, _, rfl, fun _ => (by decide : 1 = opLength 0x81#8)⟩

theorem EncodedLength.addAD : EncodedLength.Statement .addAD :=
  ⟨_, _, rfl, fun _ => (by decide : 1 = opLength 0x82#8)⟩

theorem EncodedLength.addAE : EncodedLength.Statement .addAE :=
  ⟨_, _, rfl, fun _ => (by decide : 1 = opLength 0x83#8)⟩

theorem EncodedLength.addAH : EncodedLength.Statement .addAH :=
  ⟨_, _, rfl, fun _ => (by decide : 1 = opLength 0x84#8)⟩

theorem EncodedLength.addAL : EncodedLength.Statement .addAL :=
  ⟨_, _, rfl, fun _ => (by decide : 1 = opLength 0x85#8)⟩

theorem EncodedLength.addAIndHl : EncodedLength.Statement .addAIndHl :=
  ⟨_, _, rfl, fun _ => (by decide : 1 = opLength 0x86#8)⟩

theorem EncodedLength.addAA : EncodedLength.Statement .addAA :=
  ⟨_, _, rfl, fun _ => (by decide : 1 = opLength 0x87#8)⟩

theorem EncodedLength.adcAB : EncodedLength.Statement .adcAB :=
  ⟨_, _, rfl, fun _ => (by decide : 1 = opLength 0x88#8)⟩

theorem EncodedLength.adcAC : EncodedLength.Statement .adcAC :=
  ⟨_, _, rfl, fun _ => (by decide : 1 = opLength 0x89#8)⟩

theorem EncodedLength.adcAD : EncodedLength.Statement .adcAD :=
  ⟨_, _, rfl, fun _ => (by decide : 1 = opLength 0x8A#8)⟩

theorem EncodedLength.adcAE : EncodedLength.Statement .adcAE :=
  ⟨_, _, rfl, fun _ => (by decide : 1 = opLength 0x8B#8)⟩

theorem EncodedLength.adcAH : EncodedLength.Statement .adcAH :=
  ⟨_, _, rfl, fun _ => (by decide : 1 = opLength 0x8C#8)⟩

theorem EncodedLength.adcAL : EncodedLength.Statement .adcAL :=
  ⟨_, _, rfl, fun _ => (by decide : 1 = opLength 0x8D#8)⟩

theorem EncodedLength.adcAIndHl : EncodedLength.Statement .adcAIndHl :=
  ⟨_, _, rfl, fun _ => (by decide : 1 = opLength 0x8E#8)⟩

theorem EncodedLength.adcAA : EncodedLength.Statement .adcAA :=
  ⟨_, _, rfl, fun _ => (by decide : 1 = opLength 0x8F#8)⟩

theorem EncodedLength.subAB : EncodedLength.Statement .subAB :=
  ⟨_, _, rfl, fun _ => (by decide : 1 = opLength 0x90#8)⟩

theorem EncodedLength.subAC : EncodedLength.Statement .subAC :=
  ⟨_, _, rfl, fun _ => (by decide : 1 = opLength 0x91#8)⟩

theorem EncodedLength.subAD : EncodedLength.Statement .subAD :=
  ⟨_, _, rfl, fun _ => (by decide : 1 = opLength 0x92#8)⟩

theorem EncodedLength.subAE : EncodedLength.Statement .subAE :=
  ⟨_, _, rfl, fun _ => (by decide : 1 = opLength 0x93#8)⟩

theorem EncodedLength.subAH : EncodedLength.Statement .subAH :=
  ⟨_, _, rfl, fun _ => (by decide : 1 = opLength 0x94#8)⟩

theorem EncodedLength.subAL : EncodedLength.Statement .subAL :=
  ⟨_, _, rfl, fun _ => (by decide : 1 = opLength 0x95#8)⟩

theorem EncodedLength.subAIndHl : EncodedLength.Statement .subAIndHl :=
  ⟨_, _, rfl, fun _ => (by decide : 1 = opLength 0x96#8)⟩

theorem EncodedLength.subAA : EncodedLength.Statement .subAA :=
  ⟨_, _, rfl, fun _ => (by decide : 1 = opLength 0x97#8)⟩

theorem EncodedLength.sbcAB : EncodedLength.Statement .sbcAB :=
  ⟨_, _, rfl, fun _ => (by decide : 1 = opLength 0x98#8)⟩

theorem EncodedLength.sbcAC : EncodedLength.Statement .sbcAC :=
  ⟨_, _, rfl, fun _ => (by decide : 1 = opLength 0x99#8)⟩

theorem EncodedLength.sbcAD : EncodedLength.Statement .sbcAD :=
  ⟨_, _, rfl, fun _ => (by decide : 1 = opLength 0x9A#8)⟩

theorem EncodedLength.sbcAE : EncodedLength.Statement .sbcAE :=
  ⟨_, _, rfl, fun _ => (by decide : 1 = opLength 0x9B#8)⟩

theorem EncodedLength.sbcAH : EncodedLength.Statement .sbcAH :=
  ⟨_, _, rfl, fun _ => (by decide : 1 = opLength 0x9C#8)⟩

theorem EncodedLength.sbcAL : EncodedLength.Statement .sbcAL :=
  ⟨_, _, rfl, fun _ => (by decide : 1 = opLength 0x9D#8)⟩

theorem EncodedLength.sbcAIndHl : EncodedLength.Statement .sbcAIndHl :=
  ⟨_, _, rfl, fun _ => (by decide : 1 = opLength 0x9E#8)⟩

theorem EncodedLength.sbcAA : EncodedLength.Statement .sbcAA :=
  ⟨_, _, rfl, fun _ => (by decide : 1 = opLength 0x9F#8)⟩

theorem EncodedLength.andAB : EncodedLength.Statement .andAB :=
  ⟨_, _, rfl, fun _ => (by decide : 1 = opLength 0xA0#8)⟩

theorem EncodedLength.andAC : EncodedLength.Statement .andAC :=
  ⟨_, _, rfl, fun _ => (by decide : 1 = opLength 0xA1#8)⟩

theorem EncodedLength.andAD : EncodedLength.Statement .andAD :=
  ⟨_, _, rfl, fun _ => (by decide : 1 = opLength 0xA2#8)⟩

theorem EncodedLength.andAE : EncodedLength.Statement .andAE :=
  ⟨_, _, rfl, fun _ => (by decide : 1 = opLength 0xA3#8)⟩

theorem EncodedLength.andAH : EncodedLength.Statement .andAH :=
  ⟨_, _, rfl, fun _ => (by decide : 1 = opLength 0xA4#8)⟩

theorem EncodedLength.andAL : EncodedLength.Statement .andAL :=
  ⟨_, _, rfl, fun _ => (by decide : 1 = opLength 0xA5#8)⟩

theorem EncodedLength.andAIndHl : EncodedLength.Statement .andAIndHl :=
  ⟨_, _, rfl, fun _ => (by decide : 1 = opLength 0xA6#8)⟩

theorem EncodedLength.andAA : EncodedLength.Statement .andAA :=
  ⟨_, _, rfl, fun _ => (by decide : 1 = opLength 0xA7#8)⟩

theorem EncodedLength.xorAB : EncodedLength.Statement .xorAB :=
  ⟨_, _, rfl, fun _ => (by decide : 1 = opLength 0xA8#8)⟩

theorem EncodedLength.xorAC : EncodedLength.Statement .xorAC :=
  ⟨_, _, rfl, fun _ => (by decide : 1 = opLength 0xA9#8)⟩

theorem EncodedLength.xorAD : EncodedLength.Statement .xorAD :=
  ⟨_, _, rfl, fun _ => (by decide : 1 = opLength 0xAA#8)⟩

theorem EncodedLength.xorAE : EncodedLength.Statement .xorAE :=
  ⟨_, _, rfl, fun _ => (by decide : 1 = opLength 0xAB#8)⟩

theorem EncodedLength.xorAH : EncodedLength.Statement .xorAH :=
  ⟨_, _, rfl, fun _ => (by decide : 1 = opLength 0xAC#8)⟩

theorem EncodedLength.xorAL : EncodedLength.Statement .xorAL :=
  ⟨_, _, rfl, fun _ => (by decide : 1 = opLength 0xAD#8)⟩

theorem EncodedLength.xorAIndHl : EncodedLength.Statement .xorAIndHl :=
  ⟨_, _, rfl, fun _ => (by decide : 1 = opLength 0xAE#8)⟩

theorem EncodedLength.xorAA : EncodedLength.Statement .xorAA :=
  ⟨_, _, rfl, fun _ => (by decide : 1 = opLength 0xAF#8)⟩

theorem EncodedLength.orAB : EncodedLength.Statement .orAB :=
  ⟨_, _, rfl, fun _ => (by decide : 1 = opLength 0xB0#8)⟩

theorem EncodedLength.orAC : EncodedLength.Statement .orAC :=
  ⟨_, _, rfl, fun _ => (by decide : 1 = opLength 0xB1#8)⟩

theorem EncodedLength.orAD : EncodedLength.Statement .orAD :=
  ⟨_, _, rfl, fun _ => (by decide : 1 = opLength 0xB2#8)⟩

theorem EncodedLength.orAE : EncodedLength.Statement .orAE :=
  ⟨_, _, rfl, fun _ => (by decide : 1 = opLength 0xB3#8)⟩

theorem EncodedLength.orAH : EncodedLength.Statement .orAH :=
  ⟨_, _, rfl, fun _ => (by decide : 1 = opLength 0xB4#8)⟩

theorem EncodedLength.orAL : EncodedLength.Statement .orAL :=
  ⟨_, _, rfl, fun _ => (by decide : 1 = opLength 0xB5#8)⟩

theorem EncodedLength.orAIndHl : EncodedLength.Statement .orAIndHl :=
  ⟨_, _, rfl, fun _ => (by decide : 1 = opLength 0xB6#8)⟩

theorem EncodedLength.orAA : EncodedLength.Statement .orAA :=
  ⟨_, _, rfl, fun _ => (by decide : 1 = opLength 0xB7#8)⟩

theorem EncodedLength.cpAB : EncodedLength.Statement .cpAB :=
  ⟨_, _, rfl, fun _ => (by decide : 1 = opLength 0xB8#8)⟩

theorem EncodedLength.cpAC : EncodedLength.Statement .cpAC :=
  ⟨_, _, rfl, fun _ => (by decide : 1 = opLength 0xB9#8)⟩

theorem EncodedLength.cpAD : EncodedLength.Statement .cpAD :=
  ⟨_, _, rfl, fun _ => (by decide : 1 = opLength 0xBA#8)⟩

theorem EncodedLength.cpAE : EncodedLength.Statement .cpAE :=
  ⟨_, _, rfl, fun _ => (by decide : 1 = opLength 0xBB#8)⟩

theorem EncodedLength.cpAH : EncodedLength.Statement .cpAH :=
  ⟨_, _, rfl, fun _ => (by decide : 1 = opLength 0xBC#8)⟩

theorem EncodedLength.cpAL : EncodedLength.Statement .cpAL :=
  ⟨_, _, rfl, fun _ => (by decide : 1 = opLength 0xBD#8)⟩

theorem EncodedLength.cpAIndHl : EncodedLength.Statement .cpAIndHl :=
  ⟨_, _, rfl, fun _ => (by decide : 1 = opLength 0xBE#8)⟩

theorem EncodedLength.cpAA : EncodedLength.Statement .cpAA :=
  ⟨_, _, rfl, fun _ => (by decide : 1 = opLength 0xBF#8)⟩

theorem EncodedLength.retNz : EncodedLength.Statement .retNz :=
  ⟨_, _, rfl, fun _ => (by decide : 1 = opLength 0xC0#8)⟩

theorem EncodedLength.popBc : EncodedLength.Statement .popBc :=
  ⟨_, _, rfl, fun _ => (by decide : 1 = opLength 0xC1#8)⟩

theorem EncodedLength.jpNzN16 (nn : Word) : EncodedLength.Statement (.jpNzN16 nn) :=
  ⟨_, _, rfl, fun _ => (by decide : 3 = opLength 0xC2#8)⟩

theorem EncodedLength.jpN16 (nn : Word) : EncodedLength.Statement (.jpN16 nn) :=
  ⟨_, _, rfl, fun _ => (by decide : 3 = opLength 0xC3#8)⟩

theorem EncodedLength.callNzN16 (nn : Word) : EncodedLength.Statement (.callNzN16 nn) :=
  ⟨_, _, rfl, fun _ => (by decide : 3 = opLength 0xC4#8)⟩

theorem EncodedLength.pushBc : EncodedLength.Statement .pushBc :=
  ⟨_, _, rfl, fun _ => (by decide : 1 = opLength 0xC5#8)⟩

theorem EncodedLength.addAN8 (n : Byte) : EncodedLength.Statement (.addAN8 n) :=
  ⟨_, _, rfl, fun _ => (by decide : 2 = opLength 0xC6#8)⟩

theorem EncodedLength.rst00 : EncodedLength.Statement .rst00 :=
  ⟨_, _, rfl, fun _ => (by decide : 1 = opLength 0xC7#8)⟩

theorem EncodedLength.retZ : EncodedLength.Statement .retZ :=
  ⟨_, _, rfl, fun _ => (by decide : 1 = opLength 0xC8#8)⟩

theorem EncodedLength.ret : EncodedLength.Statement .ret :=
  ⟨_, _, rfl, fun _ => (by decide : 1 = opLength 0xC9#8)⟩

theorem EncodedLength.jpZN16 (nn : Word) : EncodedLength.Statement (.jpZN16 nn) :=
  ⟨_, _, rfl, fun _ => (by decide : 3 = opLength 0xCA#8)⟩

theorem EncodedLength.prefixCb : EncodedLength.Statement .prefixCb :=
  ⟨_, _, rfl, by decide⟩

theorem EncodedLength.callZN16 (nn : Word) : EncodedLength.Statement (.callZN16 nn) :=
  ⟨_, _, rfl, fun _ => (by decide : 3 = opLength 0xCC#8)⟩

theorem EncodedLength.callN16 (nn : Word) : EncodedLength.Statement (.callN16 nn) :=
  ⟨_, _, rfl, fun _ => (by decide : 3 = opLength 0xCD#8)⟩

theorem EncodedLength.adcAN8 (n : Byte) : EncodedLength.Statement (.adcAN8 n) :=
  ⟨_, _, rfl, fun _ => (by decide : 2 = opLength 0xCE#8)⟩

theorem EncodedLength.rst08 : EncodedLength.Statement .rst08 :=
  ⟨_, _, rfl, fun _ => (by decide : 1 = opLength 0xCF#8)⟩

theorem EncodedLength.retNc : EncodedLength.Statement .retNc :=
  ⟨_, _, rfl, fun _ => (by decide : 1 = opLength 0xD0#8)⟩

theorem EncodedLength.popDe : EncodedLength.Statement .popDe :=
  ⟨_, _, rfl, fun _ => (by decide : 1 = opLength 0xD1#8)⟩

theorem EncodedLength.jpNcN16 (nn : Word) : EncodedLength.Statement (.jpNcN16 nn) :=
  ⟨_, _, rfl, fun _ => (by decide : 3 = opLength 0xD2#8)⟩

theorem EncodedLength.illegalD3 : EncodedLength.Statement .illegalD3 :=
  ⟨_, _, rfl, fun _ => (by decide : 1 = opLength 0xD3#8)⟩

theorem EncodedLength.callNcN16 (nn : Word) : EncodedLength.Statement (.callNcN16 nn) :=
  ⟨_, _, rfl, fun _ => (by decide : 3 = opLength 0xD4#8)⟩

theorem EncodedLength.pushDe : EncodedLength.Statement .pushDe :=
  ⟨_, _, rfl, fun _ => (by decide : 1 = opLength 0xD5#8)⟩

theorem EncodedLength.subAN8 (n : Byte) : EncodedLength.Statement (.subAN8 n) :=
  ⟨_, _, rfl, fun _ => (by decide : 2 = opLength 0xD6#8)⟩

theorem EncodedLength.rst10 : EncodedLength.Statement .rst10 :=
  ⟨_, _, rfl, fun _ => (by decide : 1 = opLength 0xD7#8)⟩

theorem EncodedLength.retC : EncodedLength.Statement .retC :=
  ⟨_, _, rfl, fun _ => (by decide : 1 = opLength 0xD8#8)⟩

theorem EncodedLength.reti : EncodedLength.Statement .reti :=
  ⟨_, _, rfl, fun _ => (by decide : 1 = opLength 0xD9#8)⟩

theorem EncodedLength.jpCN16 (nn : Word) : EncodedLength.Statement (.jpCN16 nn) :=
  ⟨_, _, rfl, fun _ => (by decide : 3 = opLength 0xDA#8)⟩

theorem EncodedLength.illegalDB : EncodedLength.Statement .illegalDB :=
  ⟨_, _, rfl, fun _ => (by decide : 1 = opLength 0xDB#8)⟩

theorem EncodedLength.callCN16 (nn : Word) : EncodedLength.Statement (.callCN16 nn) :=
  ⟨_, _, rfl, fun _ => (by decide : 3 = opLength 0xDC#8)⟩

theorem EncodedLength.illegalDD : EncodedLength.Statement .illegalDD :=
  ⟨_, _, rfl, fun _ => (by decide : 1 = opLength 0xDD#8)⟩

theorem EncodedLength.sbcAN8 (n : Byte) : EncodedLength.Statement (.sbcAN8 n) :=
  ⟨_, _, rfl, fun _ => (by decide : 2 = opLength 0xDE#8)⟩

theorem EncodedLength.rst18 : EncodedLength.Statement .rst18 :=
  ⟨_, _, rfl, fun _ => (by decide : 1 = opLength 0xDF#8)⟩

theorem EncodedLength.ldhIndN8A (n : Byte) : EncodedLength.Statement (.ldhIndN8A n) :=
  ⟨_, _, rfl, fun _ => (by decide : 2 = opLength 0xE0#8)⟩

theorem EncodedLength.popHl : EncodedLength.Statement .popHl :=
  ⟨_, _, rfl, fun _ => (by decide : 1 = opLength 0xE1#8)⟩

theorem EncodedLength.ldhIndCA : EncodedLength.Statement .ldhIndCA :=
  ⟨_, _, rfl, fun _ => (by decide : 1 = opLength 0xE2#8)⟩

theorem EncodedLength.illegalE3 : EncodedLength.Statement .illegalE3 :=
  ⟨_, _, rfl, fun _ => (by decide : 1 = opLength 0xE3#8)⟩

theorem EncodedLength.illegalE4 : EncodedLength.Statement .illegalE4 :=
  ⟨_, _, rfl, fun _ => (by decide : 1 = opLength 0xE4#8)⟩

theorem EncodedLength.pushHl : EncodedLength.Statement .pushHl :=
  ⟨_, _, rfl, fun _ => (by decide : 1 = opLength 0xE5#8)⟩

theorem EncodedLength.andAN8 (n : Byte) : EncodedLength.Statement (.andAN8 n) :=
  ⟨_, _, rfl, fun _ => (by decide : 2 = opLength 0xE6#8)⟩

theorem EncodedLength.rst20 : EncodedLength.Statement .rst20 :=
  ⟨_, _, rfl, fun _ => (by decide : 1 = opLength 0xE7#8)⟩

theorem EncodedLength.addSpE8 (e : Byte) : EncodedLength.Statement (.addSpE8 e) :=
  ⟨_, _, rfl, fun _ => (by decide : 2 = opLength 0xE8#8)⟩

theorem EncodedLength.jpHl : EncodedLength.Statement .jpHl :=
  ⟨_, _, rfl, fun _ => (by decide : 1 = opLength 0xE9#8)⟩

theorem EncodedLength.ldIndN16A (nn : Word) : EncodedLength.Statement (.ldIndN16A nn) :=
  ⟨_, _, rfl, fun _ => (by decide : 3 = opLength 0xEA#8)⟩

theorem EncodedLength.illegalEB : EncodedLength.Statement .illegalEB :=
  ⟨_, _, rfl, fun _ => (by decide : 1 = opLength 0xEB#8)⟩

theorem EncodedLength.illegalEC : EncodedLength.Statement .illegalEC :=
  ⟨_, _, rfl, fun _ => (by decide : 1 = opLength 0xEC#8)⟩

theorem EncodedLength.illegalED : EncodedLength.Statement .illegalED :=
  ⟨_, _, rfl, fun _ => (by decide : 1 = opLength 0xED#8)⟩

theorem EncodedLength.xorAN8 (n : Byte) : EncodedLength.Statement (.xorAN8 n) :=
  ⟨_, _, rfl, fun _ => (by decide : 2 = opLength 0xEE#8)⟩

theorem EncodedLength.rst28 : EncodedLength.Statement .rst28 :=
  ⟨_, _, rfl, fun _ => (by decide : 1 = opLength 0xEF#8)⟩

theorem EncodedLength.ldhAIndN8 (n : Byte) : EncodedLength.Statement (.ldhAIndN8 n) :=
  ⟨_, _, rfl, fun _ => (by decide : 2 = opLength 0xF0#8)⟩

theorem EncodedLength.popAf : EncodedLength.Statement .popAf :=
  ⟨_, _, rfl, fun _ => (by decide : 1 = opLength 0xF1#8)⟩

theorem EncodedLength.ldhAIndC : EncodedLength.Statement .ldhAIndC :=
  ⟨_, _, rfl, fun _ => (by decide : 1 = opLength 0xF2#8)⟩

theorem EncodedLength.di : EncodedLength.Statement .di :=
  ⟨_, _, rfl, fun _ => (by decide : 1 = opLength 0xF3#8)⟩

theorem EncodedLength.illegalF4 : EncodedLength.Statement .illegalF4 :=
  ⟨_, _, rfl, fun _ => (by decide : 1 = opLength 0xF4#8)⟩

theorem EncodedLength.pushAf : EncodedLength.Statement .pushAf :=
  ⟨_, _, rfl, fun _ => (by decide : 1 = opLength 0xF5#8)⟩

theorem EncodedLength.orAN8 (n : Byte) : EncodedLength.Statement (.orAN8 n) :=
  ⟨_, _, rfl, fun _ => (by decide : 2 = opLength 0xF6#8)⟩

theorem EncodedLength.rst30 : EncodedLength.Statement .rst30 :=
  ⟨_, _, rfl, fun _ => (by decide : 1 = opLength 0xF7#8)⟩

theorem EncodedLength.ldHlSpE8 (e : Byte) : EncodedLength.Statement (.ldHlSpE8 e) :=
  ⟨_, _, rfl, fun _ => (by decide : 2 = opLength 0xF8#8)⟩

theorem EncodedLength.ldSpHl : EncodedLength.Statement .ldSpHl :=
  ⟨_, _, rfl, fun _ => (by decide : 1 = opLength 0xF9#8)⟩

theorem EncodedLength.ldAIndN16 (nn : Word) : EncodedLength.Statement (.ldAIndN16 nn) :=
  ⟨_, _, rfl, fun _ => (by decide : 3 = opLength 0xFA#8)⟩

theorem EncodedLength.ei : EncodedLength.Statement .ei :=
  ⟨_, _, rfl, fun _ => (by decide : 1 = opLength 0xFB#8)⟩

theorem EncodedLength.illegalFC : EncodedLength.Statement .illegalFC :=
  ⟨_, _, rfl, fun _ => (by decide : 1 = opLength 0xFC#8)⟩

theorem EncodedLength.illegalFD : EncodedLength.Statement .illegalFD :=
  ⟨_, _, rfl, fun _ => (by decide : 1 = opLength 0xFD#8)⟩

theorem EncodedLength.cpAN8 (n : Byte) : EncodedLength.Statement (.cpAN8 n) :=
  ⟨_, _, rfl, fun _ => (by decide : 2 = opLength 0xFE#8)⟩

theorem EncodedLength.rst38 : EncodedLength.Statement .rst38 :=
  ⟨_, _, rfl, fun _ => (by decide : 1 = opLength 0xFF#8)⟩

theorem EncodedLength.rlcB : EncodedLength.Statement .rlcB :=
  ⟨_, _, rfl, fun _ => (by decide : 2 = opLength 0xCB#8)⟩

theorem EncodedLength.rlcC : EncodedLength.Statement .rlcC :=
  ⟨_, _, rfl, fun _ => (by decide : 2 = opLength 0xCB#8)⟩

theorem EncodedLength.rlcD : EncodedLength.Statement .rlcD :=
  ⟨_, _, rfl, fun _ => (by decide : 2 = opLength 0xCB#8)⟩

theorem EncodedLength.rlcE : EncodedLength.Statement .rlcE :=
  ⟨_, _, rfl, fun _ => (by decide : 2 = opLength 0xCB#8)⟩

theorem EncodedLength.rlcH : EncodedLength.Statement .rlcH :=
  ⟨_, _, rfl, fun _ => (by decide : 2 = opLength 0xCB#8)⟩

theorem EncodedLength.rlcL : EncodedLength.Statement .rlcL :=
  ⟨_, _, rfl, fun _ => (by decide : 2 = opLength 0xCB#8)⟩

theorem EncodedLength.rlcIndHl : EncodedLength.Statement .rlcIndHl :=
  ⟨_, _, rfl, fun _ => (by decide : 2 = opLength 0xCB#8)⟩

theorem EncodedLength.rlcA : EncodedLength.Statement .rlcA :=
  ⟨_, _, rfl, fun _ => (by decide : 2 = opLength 0xCB#8)⟩

theorem EncodedLength.rrcB : EncodedLength.Statement .rrcB :=
  ⟨_, _, rfl, fun _ => (by decide : 2 = opLength 0xCB#8)⟩

theorem EncodedLength.rrcC : EncodedLength.Statement .rrcC :=
  ⟨_, _, rfl, fun _ => (by decide : 2 = opLength 0xCB#8)⟩

theorem EncodedLength.rrcD : EncodedLength.Statement .rrcD :=
  ⟨_, _, rfl, fun _ => (by decide : 2 = opLength 0xCB#8)⟩

theorem EncodedLength.rrcE : EncodedLength.Statement .rrcE :=
  ⟨_, _, rfl, fun _ => (by decide : 2 = opLength 0xCB#8)⟩

theorem EncodedLength.rrcH : EncodedLength.Statement .rrcH :=
  ⟨_, _, rfl, fun _ => (by decide : 2 = opLength 0xCB#8)⟩

theorem EncodedLength.rrcL : EncodedLength.Statement .rrcL :=
  ⟨_, _, rfl, fun _ => (by decide : 2 = opLength 0xCB#8)⟩

theorem EncodedLength.rrcIndHl : EncodedLength.Statement .rrcIndHl :=
  ⟨_, _, rfl, fun _ => (by decide : 2 = opLength 0xCB#8)⟩

theorem EncodedLength.rrcA : EncodedLength.Statement .rrcA :=
  ⟨_, _, rfl, fun _ => (by decide : 2 = opLength 0xCB#8)⟩

theorem EncodedLength.rlB : EncodedLength.Statement .rlB :=
  ⟨_, _, rfl, fun _ => (by decide : 2 = opLength 0xCB#8)⟩

theorem EncodedLength.rlC : EncodedLength.Statement .rlC :=
  ⟨_, _, rfl, fun _ => (by decide : 2 = opLength 0xCB#8)⟩

theorem EncodedLength.rlD : EncodedLength.Statement .rlD :=
  ⟨_, _, rfl, fun _ => (by decide : 2 = opLength 0xCB#8)⟩

theorem EncodedLength.rlE : EncodedLength.Statement .rlE :=
  ⟨_, _, rfl, fun _ => (by decide : 2 = opLength 0xCB#8)⟩

theorem EncodedLength.rlH : EncodedLength.Statement .rlH :=
  ⟨_, _, rfl, fun _ => (by decide : 2 = opLength 0xCB#8)⟩

theorem EncodedLength.rlL : EncodedLength.Statement .rlL :=
  ⟨_, _, rfl, fun _ => (by decide : 2 = opLength 0xCB#8)⟩

theorem EncodedLength.rlIndHl : EncodedLength.Statement .rlIndHl :=
  ⟨_, _, rfl, fun _ => (by decide : 2 = opLength 0xCB#8)⟩

theorem EncodedLength.rlA : EncodedLength.Statement .rlA :=
  ⟨_, _, rfl, fun _ => (by decide : 2 = opLength 0xCB#8)⟩

theorem EncodedLength.rrB : EncodedLength.Statement .rrB :=
  ⟨_, _, rfl, fun _ => (by decide : 2 = opLength 0xCB#8)⟩

theorem EncodedLength.rrC : EncodedLength.Statement .rrC :=
  ⟨_, _, rfl, fun _ => (by decide : 2 = opLength 0xCB#8)⟩

theorem EncodedLength.rrD : EncodedLength.Statement .rrD :=
  ⟨_, _, rfl, fun _ => (by decide : 2 = opLength 0xCB#8)⟩

theorem EncodedLength.rrE : EncodedLength.Statement .rrE :=
  ⟨_, _, rfl, fun _ => (by decide : 2 = opLength 0xCB#8)⟩

theorem EncodedLength.rrH : EncodedLength.Statement .rrH :=
  ⟨_, _, rfl, fun _ => (by decide : 2 = opLength 0xCB#8)⟩

theorem EncodedLength.rrL : EncodedLength.Statement .rrL :=
  ⟨_, _, rfl, fun _ => (by decide : 2 = opLength 0xCB#8)⟩

theorem EncodedLength.rrIndHl : EncodedLength.Statement .rrIndHl :=
  ⟨_, _, rfl, fun _ => (by decide : 2 = opLength 0xCB#8)⟩

theorem EncodedLength.rrA : EncodedLength.Statement .rrA :=
  ⟨_, _, rfl, fun _ => (by decide : 2 = opLength 0xCB#8)⟩

theorem EncodedLength.slaB : EncodedLength.Statement .slaB :=
  ⟨_, _, rfl, fun _ => (by decide : 2 = opLength 0xCB#8)⟩

theorem EncodedLength.slaC : EncodedLength.Statement .slaC :=
  ⟨_, _, rfl, fun _ => (by decide : 2 = opLength 0xCB#8)⟩

theorem EncodedLength.slaD : EncodedLength.Statement .slaD :=
  ⟨_, _, rfl, fun _ => (by decide : 2 = opLength 0xCB#8)⟩

theorem EncodedLength.slaE : EncodedLength.Statement .slaE :=
  ⟨_, _, rfl, fun _ => (by decide : 2 = opLength 0xCB#8)⟩

theorem EncodedLength.slaH : EncodedLength.Statement .slaH :=
  ⟨_, _, rfl, fun _ => (by decide : 2 = opLength 0xCB#8)⟩

theorem EncodedLength.slaL : EncodedLength.Statement .slaL :=
  ⟨_, _, rfl, fun _ => (by decide : 2 = opLength 0xCB#8)⟩

theorem EncodedLength.slaIndHl : EncodedLength.Statement .slaIndHl :=
  ⟨_, _, rfl, fun _ => (by decide : 2 = opLength 0xCB#8)⟩

theorem EncodedLength.slaA : EncodedLength.Statement .slaA :=
  ⟨_, _, rfl, fun _ => (by decide : 2 = opLength 0xCB#8)⟩

theorem EncodedLength.sraB : EncodedLength.Statement .sraB :=
  ⟨_, _, rfl, fun _ => (by decide : 2 = opLength 0xCB#8)⟩

theorem EncodedLength.sraC : EncodedLength.Statement .sraC :=
  ⟨_, _, rfl, fun _ => (by decide : 2 = opLength 0xCB#8)⟩

theorem EncodedLength.sraD : EncodedLength.Statement .sraD :=
  ⟨_, _, rfl, fun _ => (by decide : 2 = opLength 0xCB#8)⟩

theorem EncodedLength.sraE : EncodedLength.Statement .sraE :=
  ⟨_, _, rfl, fun _ => (by decide : 2 = opLength 0xCB#8)⟩

theorem EncodedLength.sraH : EncodedLength.Statement .sraH :=
  ⟨_, _, rfl, fun _ => (by decide : 2 = opLength 0xCB#8)⟩

theorem EncodedLength.sraL : EncodedLength.Statement .sraL :=
  ⟨_, _, rfl, fun _ => (by decide : 2 = opLength 0xCB#8)⟩

theorem EncodedLength.sraIndHl : EncodedLength.Statement .sraIndHl :=
  ⟨_, _, rfl, fun _ => (by decide : 2 = opLength 0xCB#8)⟩

theorem EncodedLength.sraA : EncodedLength.Statement .sraA :=
  ⟨_, _, rfl, fun _ => (by decide : 2 = opLength 0xCB#8)⟩

theorem EncodedLength.swapB : EncodedLength.Statement .swapB :=
  ⟨_, _, rfl, fun _ => (by decide : 2 = opLength 0xCB#8)⟩

theorem EncodedLength.swapC : EncodedLength.Statement .swapC :=
  ⟨_, _, rfl, fun _ => (by decide : 2 = opLength 0xCB#8)⟩

theorem EncodedLength.swapD : EncodedLength.Statement .swapD :=
  ⟨_, _, rfl, fun _ => (by decide : 2 = opLength 0xCB#8)⟩

theorem EncodedLength.swapE : EncodedLength.Statement .swapE :=
  ⟨_, _, rfl, fun _ => (by decide : 2 = opLength 0xCB#8)⟩

theorem EncodedLength.swapH : EncodedLength.Statement .swapH :=
  ⟨_, _, rfl, fun _ => (by decide : 2 = opLength 0xCB#8)⟩

theorem EncodedLength.swapL : EncodedLength.Statement .swapL :=
  ⟨_, _, rfl, fun _ => (by decide : 2 = opLength 0xCB#8)⟩

theorem EncodedLength.swapIndHl : EncodedLength.Statement .swapIndHl :=
  ⟨_, _, rfl, fun _ => (by decide : 2 = opLength 0xCB#8)⟩

theorem EncodedLength.swapA : EncodedLength.Statement .swapA :=
  ⟨_, _, rfl, fun _ => (by decide : 2 = opLength 0xCB#8)⟩

theorem EncodedLength.srlB : EncodedLength.Statement .srlB :=
  ⟨_, _, rfl, fun _ => (by decide : 2 = opLength 0xCB#8)⟩

theorem EncodedLength.srlC : EncodedLength.Statement .srlC :=
  ⟨_, _, rfl, fun _ => (by decide : 2 = opLength 0xCB#8)⟩

theorem EncodedLength.srlD : EncodedLength.Statement .srlD :=
  ⟨_, _, rfl, fun _ => (by decide : 2 = opLength 0xCB#8)⟩

theorem EncodedLength.srlE : EncodedLength.Statement .srlE :=
  ⟨_, _, rfl, fun _ => (by decide : 2 = opLength 0xCB#8)⟩

theorem EncodedLength.srlH : EncodedLength.Statement .srlH :=
  ⟨_, _, rfl, fun _ => (by decide : 2 = opLength 0xCB#8)⟩

theorem EncodedLength.srlL : EncodedLength.Statement .srlL :=
  ⟨_, _, rfl, fun _ => (by decide : 2 = opLength 0xCB#8)⟩

theorem EncodedLength.srlIndHl : EncodedLength.Statement .srlIndHl :=
  ⟨_, _, rfl, fun _ => (by decide : 2 = opLength 0xCB#8)⟩

theorem EncodedLength.srlA : EncodedLength.Statement .srlA :=
  ⟨_, _, rfl, fun _ => (by decide : 2 = opLength 0xCB#8)⟩

theorem EncodedLength.bit0B : EncodedLength.Statement .bit0B :=
  ⟨_, _, rfl, fun _ => (by decide : 2 = opLength 0xCB#8)⟩

theorem EncodedLength.bit0C : EncodedLength.Statement .bit0C :=
  ⟨_, _, rfl, fun _ => (by decide : 2 = opLength 0xCB#8)⟩

theorem EncodedLength.bit0D : EncodedLength.Statement .bit0D :=
  ⟨_, _, rfl, fun _ => (by decide : 2 = opLength 0xCB#8)⟩

theorem EncodedLength.bit0E : EncodedLength.Statement .bit0E :=
  ⟨_, _, rfl, fun _ => (by decide : 2 = opLength 0xCB#8)⟩

theorem EncodedLength.bit0H : EncodedLength.Statement .bit0H :=
  ⟨_, _, rfl, fun _ => (by decide : 2 = opLength 0xCB#8)⟩

theorem EncodedLength.bit0L : EncodedLength.Statement .bit0L :=
  ⟨_, _, rfl, fun _ => (by decide : 2 = opLength 0xCB#8)⟩

theorem EncodedLength.bit0IndHl : EncodedLength.Statement .bit0IndHl :=
  ⟨_, _, rfl, fun _ => (by decide : 2 = opLength 0xCB#8)⟩

theorem EncodedLength.bit0A : EncodedLength.Statement .bit0A :=
  ⟨_, _, rfl, fun _ => (by decide : 2 = opLength 0xCB#8)⟩

theorem EncodedLength.bit1B : EncodedLength.Statement .bit1B :=
  ⟨_, _, rfl, fun _ => (by decide : 2 = opLength 0xCB#8)⟩

theorem EncodedLength.bit1C : EncodedLength.Statement .bit1C :=
  ⟨_, _, rfl, fun _ => (by decide : 2 = opLength 0xCB#8)⟩

theorem EncodedLength.bit1D : EncodedLength.Statement .bit1D :=
  ⟨_, _, rfl, fun _ => (by decide : 2 = opLength 0xCB#8)⟩

theorem EncodedLength.bit1E : EncodedLength.Statement .bit1E :=
  ⟨_, _, rfl, fun _ => (by decide : 2 = opLength 0xCB#8)⟩

theorem EncodedLength.bit1H : EncodedLength.Statement .bit1H :=
  ⟨_, _, rfl, fun _ => (by decide : 2 = opLength 0xCB#8)⟩

theorem EncodedLength.bit1L : EncodedLength.Statement .bit1L :=
  ⟨_, _, rfl, fun _ => (by decide : 2 = opLength 0xCB#8)⟩

theorem EncodedLength.bit1IndHl : EncodedLength.Statement .bit1IndHl :=
  ⟨_, _, rfl, fun _ => (by decide : 2 = opLength 0xCB#8)⟩

theorem EncodedLength.bit1A : EncodedLength.Statement .bit1A :=
  ⟨_, _, rfl, fun _ => (by decide : 2 = opLength 0xCB#8)⟩

theorem EncodedLength.bit2B : EncodedLength.Statement .bit2B :=
  ⟨_, _, rfl, fun _ => (by decide : 2 = opLength 0xCB#8)⟩

theorem EncodedLength.bit2C : EncodedLength.Statement .bit2C :=
  ⟨_, _, rfl, fun _ => (by decide : 2 = opLength 0xCB#8)⟩

theorem EncodedLength.bit2D : EncodedLength.Statement .bit2D :=
  ⟨_, _, rfl, fun _ => (by decide : 2 = opLength 0xCB#8)⟩

theorem EncodedLength.bit2E : EncodedLength.Statement .bit2E :=
  ⟨_, _, rfl, fun _ => (by decide : 2 = opLength 0xCB#8)⟩

theorem EncodedLength.bit2H : EncodedLength.Statement .bit2H :=
  ⟨_, _, rfl, fun _ => (by decide : 2 = opLength 0xCB#8)⟩

theorem EncodedLength.bit2L : EncodedLength.Statement .bit2L :=
  ⟨_, _, rfl, fun _ => (by decide : 2 = opLength 0xCB#8)⟩

theorem EncodedLength.bit2IndHl : EncodedLength.Statement .bit2IndHl :=
  ⟨_, _, rfl, fun _ => (by decide : 2 = opLength 0xCB#8)⟩

theorem EncodedLength.bit2A : EncodedLength.Statement .bit2A :=
  ⟨_, _, rfl, fun _ => (by decide : 2 = opLength 0xCB#8)⟩

theorem EncodedLength.bit3B : EncodedLength.Statement .bit3B :=
  ⟨_, _, rfl, fun _ => (by decide : 2 = opLength 0xCB#8)⟩

theorem EncodedLength.bit3C : EncodedLength.Statement .bit3C :=
  ⟨_, _, rfl, fun _ => (by decide : 2 = opLength 0xCB#8)⟩

theorem EncodedLength.bit3D : EncodedLength.Statement .bit3D :=
  ⟨_, _, rfl, fun _ => (by decide : 2 = opLength 0xCB#8)⟩

theorem EncodedLength.bit3E : EncodedLength.Statement .bit3E :=
  ⟨_, _, rfl, fun _ => (by decide : 2 = opLength 0xCB#8)⟩

theorem EncodedLength.bit3H : EncodedLength.Statement .bit3H :=
  ⟨_, _, rfl, fun _ => (by decide : 2 = opLength 0xCB#8)⟩

theorem EncodedLength.bit3L : EncodedLength.Statement .bit3L :=
  ⟨_, _, rfl, fun _ => (by decide : 2 = opLength 0xCB#8)⟩

theorem EncodedLength.bit3IndHl : EncodedLength.Statement .bit3IndHl :=
  ⟨_, _, rfl, fun _ => (by decide : 2 = opLength 0xCB#8)⟩

theorem EncodedLength.bit3A : EncodedLength.Statement .bit3A :=
  ⟨_, _, rfl, fun _ => (by decide : 2 = opLength 0xCB#8)⟩

theorem EncodedLength.bit4B : EncodedLength.Statement .bit4B :=
  ⟨_, _, rfl, fun _ => (by decide : 2 = opLength 0xCB#8)⟩

theorem EncodedLength.bit4C : EncodedLength.Statement .bit4C :=
  ⟨_, _, rfl, fun _ => (by decide : 2 = opLength 0xCB#8)⟩

theorem EncodedLength.bit4D : EncodedLength.Statement .bit4D :=
  ⟨_, _, rfl, fun _ => (by decide : 2 = opLength 0xCB#8)⟩

theorem EncodedLength.bit4E : EncodedLength.Statement .bit4E :=
  ⟨_, _, rfl, fun _ => (by decide : 2 = opLength 0xCB#8)⟩

theorem EncodedLength.bit4H : EncodedLength.Statement .bit4H :=
  ⟨_, _, rfl, fun _ => (by decide : 2 = opLength 0xCB#8)⟩

theorem EncodedLength.bit4L : EncodedLength.Statement .bit4L :=
  ⟨_, _, rfl, fun _ => (by decide : 2 = opLength 0xCB#8)⟩

theorem EncodedLength.bit4IndHl : EncodedLength.Statement .bit4IndHl :=
  ⟨_, _, rfl, fun _ => (by decide : 2 = opLength 0xCB#8)⟩

theorem EncodedLength.bit4A : EncodedLength.Statement .bit4A :=
  ⟨_, _, rfl, fun _ => (by decide : 2 = opLength 0xCB#8)⟩

theorem EncodedLength.bit5B : EncodedLength.Statement .bit5B :=
  ⟨_, _, rfl, fun _ => (by decide : 2 = opLength 0xCB#8)⟩

theorem EncodedLength.bit5C : EncodedLength.Statement .bit5C :=
  ⟨_, _, rfl, fun _ => (by decide : 2 = opLength 0xCB#8)⟩

theorem EncodedLength.bit5D : EncodedLength.Statement .bit5D :=
  ⟨_, _, rfl, fun _ => (by decide : 2 = opLength 0xCB#8)⟩

theorem EncodedLength.bit5E : EncodedLength.Statement .bit5E :=
  ⟨_, _, rfl, fun _ => (by decide : 2 = opLength 0xCB#8)⟩

theorem EncodedLength.bit5H : EncodedLength.Statement .bit5H :=
  ⟨_, _, rfl, fun _ => (by decide : 2 = opLength 0xCB#8)⟩

theorem EncodedLength.bit5L : EncodedLength.Statement .bit5L :=
  ⟨_, _, rfl, fun _ => (by decide : 2 = opLength 0xCB#8)⟩

theorem EncodedLength.bit5IndHl : EncodedLength.Statement .bit5IndHl :=
  ⟨_, _, rfl, fun _ => (by decide : 2 = opLength 0xCB#8)⟩

theorem EncodedLength.bit5A : EncodedLength.Statement .bit5A :=
  ⟨_, _, rfl, fun _ => (by decide : 2 = opLength 0xCB#8)⟩

theorem EncodedLength.bit6B : EncodedLength.Statement .bit6B :=
  ⟨_, _, rfl, fun _ => (by decide : 2 = opLength 0xCB#8)⟩

theorem EncodedLength.bit6C : EncodedLength.Statement .bit6C :=
  ⟨_, _, rfl, fun _ => (by decide : 2 = opLength 0xCB#8)⟩

theorem EncodedLength.bit6D : EncodedLength.Statement .bit6D :=
  ⟨_, _, rfl, fun _ => (by decide : 2 = opLength 0xCB#8)⟩

theorem EncodedLength.bit6E : EncodedLength.Statement .bit6E :=
  ⟨_, _, rfl, fun _ => (by decide : 2 = opLength 0xCB#8)⟩

theorem EncodedLength.bit6H : EncodedLength.Statement .bit6H :=
  ⟨_, _, rfl, fun _ => (by decide : 2 = opLength 0xCB#8)⟩

theorem EncodedLength.bit6L : EncodedLength.Statement .bit6L :=
  ⟨_, _, rfl, fun _ => (by decide : 2 = opLength 0xCB#8)⟩

theorem EncodedLength.bit6IndHl : EncodedLength.Statement .bit6IndHl :=
  ⟨_, _, rfl, fun _ => (by decide : 2 = opLength 0xCB#8)⟩

theorem EncodedLength.bit6A : EncodedLength.Statement .bit6A :=
  ⟨_, _, rfl, fun _ => (by decide : 2 = opLength 0xCB#8)⟩

theorem EncodedLength.bit7B : EncodedLength.Statement .bit7B :=
  ⟨_, _, rfl, fun _ => (by decide : 2 = opLength 0xCB#8)⟩

theorem EncodedLength.bit7C : EncodedLength.Statement .bit7C :=
  ⟨_, _, rfl, fun _ => (by decide : 2 = opLength 0xCB#8)⟩

theorem EncodedLength.bit7D : EncodedLength.Statement .bit7D :=
  ⟨_, _, rfl, fun _ => (by decide : 2 = opLength 0xCB#8)⟩

theorem EncodedLength.bit7E : EncodedLength.Statement .bit7E :=
  ⟨_, _, rfl, fun _ => (by decide : 2 = opLength 0xCB#8)⟩

theorem EncodedLength.bit7H : EncodedLength.Statement .bit7H :=
  ⟨_, _, rfl, fun _ => (by decide : 2 = opLength 0xCB#8)⟩

theorem EncodedLength.bit7L : EncodedLength.Statement .bit7L :=
  ⟨_, _, rfl, fun _ => (by decide : 2 = opLength 0xCB#8)⟩

theorem EncodedLength.bit7IndHl : EncodedLength.Statement .bit7IndHl :=
  ⟨_, _, rfl, fun _ => (by decide : 2 = opLength 0xCB#8)⟩

theorem EncodedLength.bit7A : EncodedLength.Statement .bit7A :=
  ⟨_, _, rfl, fun _ => (by decide : 2 = opLength 0xCB#8)⟩

theorem EncodedLength.res0B : EncodedLength.Statement .res0B :=
  ⟨_, _, rfl, fun _ => (by decide : 2 = opLength 0xCB#8)⟩

theorem EncodedLength.res0C : EncodedLength.Statement .res0C :=
  ⟨_, _, rfl, fun _ => (by decide : 2 = opLength 0xCB#8)⟩

theorem EncodedLength.res0D : EncodedLength.Statement .res0D :=
  ⟨_, _, rfl, fun _ => (by decide : 2 = opLength 0xCB#8)⟩

theorem EncodedLength.res0E : EncodedLength.Statement .res0E :=
  ⟨_, _, rfl, fun _ => (by decide : 2 = opLength 0xCB#8)⟩

theorem EncodedLength.res0H : EncodedLength.Statement .res0H :=
  ⟨_, _, rfl, fun _ => (by decide : 2 = opLength 0xCB#8)⟩

theorem EncodedLength.res0L : EncodedLength.Statement .res0L :=
  ⟨_, _, rfl, fun _ => (by decide : 2 = opLength 0xCB#8)⟩

theorem EncodedLength.res0IndHl : EncodedLength.Statement .res0IndHl :=
  ⟨_, _, rfl, fun _ => (by decide : 2 = opLength 0xCB#8)⟩

theorem EncodedLength.res0A : EncodedLength.Statement .res0A :=
  ⟨_, _, rfl, fun _ => (by decide : 2 = opLength 0xCB#8)⟩

theorem EncodedLength.res1B : EncodedLength.Statement .res1B :=
  ⟨_, _, rfl, fun _ => (by decide : 2 = opLength 0xCB#8)⟩

theorem EncodedLength.res1C : EncodedLength.Statement .res1C :=
  ⟨_, _, rfl, fun _ => (by decide : 2 = opLength 0xCB#8)⟩

theorem EncodedLength.res1D : EncodedLength.Statement .res1D :=
  ⟨_, _, rfl, fun _ => (by decide : 2 = opLength 0xCB#8)⟩

theorem EncodedLength.res1E : EncodedLength.Statement .res1E :=
  ⟨_, _, rfl, fun _ => (by decide : 2 = opLength 0xCB#8)⟩

theorem EncodedLength.res1H : EncodedLength.Statement .res1H :=
  ⟨_, _, rfl, fun _ => (by decide : 2 = opLength 0xCB#8)⟩

theorem EncodedLength.res1L : EncodedLength.Statement .res1L :=
  ⟨_, _, rfl, fun _ => (by decide : 2 = opLength 0xCB#8)⟩

theorem EncodedLength.res1IndHl : EncodedLength.Statement .res1IndHl :=
  ⟨_, _, rfl, fun _ => (by decide : 2 = opLength 0xCB#8)⟩

theorem EncodedLength.res1A : EncodedLength.Statement .res1A :=
  ⟨_, _, rfl, fun _ => (by decide : 2 = opLength 0xCB#8)⟩

theorem EncodedLength.res2B : EncodedLength.Statement .res2B :=
  ⟨_, _, rfl, fun _ => (by decide : 2 = opLength 0xCB#8)⟩

theorem EncodedLength.res2C : EncodedLength.Statement .res2C :=
  ⟨_, _, rfl, fun _ => (by decide : 2 = opLength 0xCB#8)⟩

theorem EncodedLength.res2D : EncodedLength.Statement .res2D :=
  ⟨_, _, rfl, fun _ => (by decide : 2 = opLength 0xCB#8)⟩

theorem EncodedLength.res2E : EncodedLength.Statement .res2E :=
  ⟨_, _, rfl, fun _ => (by decide : 2 = opLength 0xCB#8)⟩

theorem EncodedLength.res2H : EncodedLength.Statement .res2H :=
  ⟨_, _, rfl, fun _ => (by decide : 2 = opLength 0xCB#8)⟩

theorem EncodedLength.res2L : EncodedLength.Statement .res2L :=
  ⟨_, _, rfl, fun _ => (by decide : 2 = opLength 0xCB#8)⟩

theorem EncodedLength.res2IndHl : EncodedLength.Statement .res2IndHl :=
  ⟨_, _, rfl, fun _ => (by decide : 2 = opLength 0xCB#8)⟩

theorem EncodedLength.res2A : EncodedLength.Statement .res2A :=
  ⟨_, _, rfl, fun _ => (by decide : 2 = opLength 0xCB#8)⟩

theorem EncodedLength.res3B : EncodedLength.Statement .res3B :=
  ⟨_, _, rfl, fun _ => (by decide : 2 = opLength 0xCB#8)⟩

theorem EncodedLength.res3C : EncodedLength.Statement .res3C :=
  ⟨_, _, rfl, fun _ => (by decide : 2 = opLength 0xCB#8)⟩

theorem EncodedLength.res3D : EncodedLength.Statement .res3D :=
  ⟨_, _, rfl, fun _ => (by decide : 2 = opLength 0xCB#8)⟩

theorem EncodedLength.res3E : EncodedLength.Statement .res3E :=
  ⟨_, _, rfl, fun _ => (by decide : 2 = opLength 0xCB#8)⟩

theorem EncodedLength.res3H : EncodedLength.Statement .res3H :=
  ⟨_, _, rfl, fun _ => (by decide : 2 = opLength 0xCB#8)⟩

theorem EncodedLength.res3L : EncodedLength.Statement .res3L :=
  ⟨_, _, rfl, fun _ => (by decide : 2 = opLength 0xCB#8)⟩

theorem EncodedLength.res3IndHl : EncodedLength.Statement .res3IndHl :=
  ⟨_, _, rfl, fun _ => (by decide : 2 = opLength 0xCB#8)⟩

theorem EncodedLength.res3A : EncodedLength.Statement .res3A :=
  ⟨_, _, rfl, fun _ => (by decide : 2 = opLength 0xCB#8)⟩

theorem EncodedLength.res4B : EncodedLength.Statement .res4B :=
  ⟨_, _, rfl, fun _ => (by decide : 2 = opLength 0xCB#8)⟩

theorem EncodedLength.res4C : EncodedLength.Statement .res4C :=
  ⟨_, _, rfl, fun _ => (by decide : 2 = opLength 0xCB#8)⟩

theorem EncodedLength.res4D : EncodedLength.Statement .res4D :=
  ⟨_, _, rfl, fun _ => (by decide : 2 = opLength 0xCB#8)⟩

theorem EncodedLength.res4E : EncodedLength.Statement .res4E :=
  ⟨_, _, rfl, fun _ => (by decide : 2 = opLength 0xCB#8)⟩

theorem EncodedLength.res4H : EncodedLength.Statement .res4H :=
  ⟨_, _, rfl, fun _ => (by decide : 2 = opLength 0xCB#8)⟩

theorem EncodedLength.res4L : EncodedLength.Statement .res4L :=
  ⟨_, _, rfl, fun _ => (by decide : 2 = opLength 0xCB#8)⟩

theorem EncodedLength.res4IndHl : EncodedLength.Statement .res4IndHl :=
  ⟨_, _, rfl, fun _ => (by decide : 2 = opLength 0xCB#8)⟩

theorem EncodedLength.res4A : EncodedLength.Statement .res4A :=
  ⟨_, _, rfl, fun _ => (by decide : 2 = opLength 0xCB#8)⟩

theorem EncodedLength.res5B : EncodedLength.Statement .res5B :=
  ⟨_, _, rfl, fun _ => (by decide : 2 = opLength 0xCB#8)⟩

theorem EncodedLength.res5C : EncodedLength.Statement .res5C :=
  ⟨_, _, rfl, fun _ => (by decide : 2 = opLength 0xCB#8)⟩

theorem EncodedLength.res5D : EncodedLength.Statement .res5D :=
  ⟨_, _, rfl, fun _ => (by decide : 2 = opLength 0xCB#8)⟩

theorem EncodedLength.res5E : EncodedLength.Statement .res5E :=
  ⟨_, _, rfl, fun _ => (by decide : 2 = opLength 0xCB#8)⟩

theorem EncodedLength.res5H : EncodedLength.Statement .res5H :=
  ⟨_, _, rfl, fun _ => (by decide : 2 = opLength 0xCB#8)⟩

theorem EncodedLength.res5L : EncodedLength.Statement .res5L :=
  ⟨_, _, rfl, fun _ => (by decide : 2 = opLength 0xCB#8)⟩

theorem EncodedLength.res5IndHl : EncodedLength.Statement .res5IndHl :=
  ⟨_, _, rfl, fun _ => (by decide : 2 = opLength 0xCB#8)⟩

theorem EncodedLength.res5A : EncodedLength.Statement .res5A :=
  ⟨_, _, rfl, fun _ => (by decide : 2 = opLength 0xCB#8)⟩

theorem EncodedLength.res6B : EncodedLength.Statement .res6B :=
  ⟨_, _, rfl, fun _ => (by decide : 2 = opLength 0xCB#8)⟩

theorem EncodedLength.res6C : EncodedLength.Statement .res6C :=
  ⟨_, _, rfl, fun _ => (by decide : 2 = opLength 0xCB#8)⟩

theorem EncodedLength.res6D : EncodedLength.Statement .res6D :=
  ⟨_, _, rfl, fun _ => (by decide : 2 = opLength 0xCB#8)⟩

theorem EncodedLength.res6E : EncodedLength.Statement .res6E :=
  ⟨_, _, rfl, fun _ => (by decide : 2 = opLength 0xCB#8)⟩

theorem EncodedLength.res6H : EncodedLength.Statement .res6H :=
  ⟨_, _, rfl, fun _ => (by decide : 2 = opLength 0xCB#8)⟩

theorem EncodedLength.res6L : EncodedLength.Statement .res6L :=
  ⟨_, _, rfl, fun _ => (by decide : 2 = opLength 0xCB#8)⟩

theorem EncodedLength.res6IndHl : EncodedLength.Statement .res6IndHl :=
  ⟨_, _, rfl, fun _ => (by decide : 2 = opLength 0xCB#8)⟩

theorem EncodedLength.res6A : EncodedLength.Statement .res6A :=
  ⟨_, _, rfl, fun _ => (by decide : 2 = opLength 0xCB#8)⟩

theorem EncodedLength.res7B : EncodedLength.Statement .res7B :=
  ⟨_, _, rfl, fun _ => (by decide : 2 = opLength 0xCB#8)⟩

theorem EncodedLength.res7C : EncodedLength.Statement .res7C :=
  ⟨_, _, rfl, fun _ => (by decide : 2 = opLength 0xCB#8)⟩

theorem EncodedLength.res7D : EncodedLength.Statement .res7D :=
  ⟨_, _, rfl, fun _ => (by decide : 2 = opLength 0xCB#8)⟩

theorem EncodedLength.res7E : EncodedLength.Statement .res7E :=
  ⟨_, _, rfl, fun _ => (by decide : 2 = opLength 0xCB#8)⟩

theorem EncodedLength.res7H : EncodedLength.Statement .res7H :=
  ⟨_, _, rfl, fun _ => (by decide : 2 = opLength 0xCB#8)⟩

theorem EncodedLength.res7L : EncodedLength.Statement .res7L :=
  ⟨_, _, rfl, fun _ => (by decide : 2 = opLength 0xCB#8)⟩

theorem EncodedLength.res7IndHl : EncodedLength.Statement .res7IndHl :=
  ⟨_, _, rfl, fun _ => (by decide : 2 = opLength 0xCB#8)⟩

theorem EncodedLength.res7A : EncodedLength.Statement .res7A :=
  ⟨_, _, rfl, fun _ => (by decide : 2 = opLength 0xCB#8)⟩

theorem EncodedLength.set0B : EncodedLength.Statement .set0B :=
  ⟨_, _, rfl, fun _ => (by decide : 2 = opLength 0xCB#8)⟩

theorem EncodedLength.set0C : EncodedLength.Statement .set0C :=
  ⟨_, _, rfl, fun _ => (by decide : 2 = opLength 0xCB#8)⟩

theorem EncodedLength.set0D : EncodedLength.Statement .set0D :=
  ⟨_, _, rfl, fun _ => (by decide : 2 = opLength 0xCB#8)⟩

theorem EncodedLength.set0E : EncodedLength.Statement .set0E :=
  ⟨_, _, rfl, fun _ => (by decide : 2 = opLength 0xCB#8)⟩

theorem EncodedLength.set0H : EncodedLength.Statement .set0H :=
  ⟨_, _, rfl, fun _ => (by decide : 2 = opLength 0xCB#8)⟩

theorem EncodedLength.set0L : EncodedLength.Statement .set0L :=
  ⟨_, _, rfl, fun _ => (by decide : 2 = opLength 0xCB#8)⟩

theorem EncodedLength.set0IndHl : EncodedLength.Statement .set0IndHl :=
  ⟨_, _, rfl, fun _ => (by decide : 2 = opLength 0xCB#8)⟩

theorem EncodedLength.set0A : EncodedLength.Statement .set0A :=
  ⟨_, _, rfl, fun _ => (by decide : 2 = opLength 0xCB#8)⟩

theorem EncodedLength.set1B : EncodedLength.Statement .set1B :=
  ⟨_, _, rfl, fun _ => (by decide : 2 = opLength 0xCB#8)⟩

theorem EncodedLength.set1C : EncodedLength.Statement .set1C :=
  ⟨_, _, rfl, fun _ => (by decide : 2 = opLength 0xCB#8)⟩

theorem EncodedLength.set1D : EncodedLength.Statement .set1D :=
  ⟨_, _, rfl, fun _ => (by decide : 2 = opLength 0xCB#8)⟩

theorem EncodedLength.set1E : EncodedLength.Statement .set1E :=
  ⟨_, _, rfl, fun _ => (by decide : 2 = opLength 0xCB#8)⟩

theorem EncodedLength.set1H : EncodedLength.Statement .set1H :=
  ⟨_, _, rfl, fun _ => (by decide : 2 = opLength 0xCB#8)⟩

theorem EncodedLength.set1L : EncodedLength.Statement .set1L :=
  ⟨_, _, rfl, fun _ => (by decide : 2 = opLength 0xCB#8)⟩

theorem EncodedLength.set1IndHl : EncodedLength.Statement .set1IndHl :=
  ⟨_, _, rfl, fun _ => (by decide : 2 = opLength 0xCB#8)⟩

theorem EncodedLength.set1A : EncodedLength.Statement .set1A :=
  ⟨_, _, rfl, fun _ => (by decide : 2 = opLength 0xCB#8)⟩

theorem EncodedLength.set2B : EncodedLength.Statement .set2B :=
  ⟨_, _, rfl, fun _ => (by decide : 2 = opLength 0xCB#8)⟩

theorem EncodedLength.set2C : EncodedLength.Statement .set2C :=
  ⟨_, _, rfl, fun _ => (by decide : 2 = opLength 0xCB#8)⟩

theorem EncodedLength.set2D : EncodedLength.Statement .set2D :=
  ⟨_, _, rfl, fun _ => (by decide : 2 = opLength 0xCB#8)⟩

theorem EncodedLength.set2E : EncodedLength.Statement .set2E :=
  ⟨_, _, rfl, fun _ => (by decide : 2 = opLength 0xCB#8)⟩

theorem EncodedLength.set2H : EncodedLength.Statement .set2H :=
  ⟨_, _, rfl, fun _ => (by decide : 2 = opLength 0xCB#8)⟩

theorem EncodedLength.set2L : EncodedLength.Statement .set2L :=
  ⟨_, _, rfl, fun _ => (by decide : 2 = opLength 0xCB#8)⟩

theorem EncodedLength.set2IndHl : EncodedLength.Statement .set2IndHl :=
  ⟨_, _, rfl, fun _ => (by decide : 2 = opLength 0xCB#8)⟩

theorem EncodedLength.set2A : EncodedLength.Statement .set2A :=
  ⟨_, _, rfl, fun _ => (by decide : 2 = opLength 0xCB#8)⟩

theorem EncodedLength.set3B : EncodedLength.Statement .set3B :=
  ⟨_, _, rfl, fun _ => (by decide : 2 = opLength 0xCB#8)⟩

theorem EncodedLength.set3C : EncodedLength.Statement .set3C :=
  ⟨_, _, rfl, fun _ => (by decide : 2 = opLength 0xCB#8)⟩

theorem EncodedLength.set3D : EncodedLength.Statement .set3D :=
  ⟨_, _, rfl, fun _ => (by decide : 2 = opLength 0xCB#8)⟩

theorem EncodedLength.set3E : EncodedLength.Statement .set3E :=
  ⟨_, _, rfl, fun _ => (by decide : 2 = opLength 0xCB#8)⟩

theorem EncodedLength.set3H : EncodedLength.Statement .set3H :=
  ⟨_, _, rfl, fun _ => (by decide : 2 = opLength 0xCB#8)⟩

theorem EncodedLength.set3L : EncodedLength.Statement .set3L :=
  ⟨_, _, rfl, fun _ => (by decide : 2 = opLength 0xCB#8)⟩

theorem EncodedLength.set3IndHl : EncodedLength.Statement .set3IndHl :=
  ⟨_, _, rfl, fun _ => (by decide : 2 = opLength 0xCB#8)⟩

theorem EncodedLength.set3A : EncodedLength.Statement .set3A :=
  ⟨_, _, rfl, fun _ => (by decide : 2 = opLength 0xCB#8)⟩

theorem EncodedLength.set4B : EncodedLength.Statement .set4B :=
  ⟨_, _, rfl, fun _ => (by decide : 2 = opLength 0xCB#8)⟩

theorem EncodedLength.set4C : EncodedLength.Statement .set4C :=
  ⟨_, _, rfl, fun _ => (by decide : 2 = opLength 0xCB#8)⟩

theorem EncodedLength.set4D : EncodedLength.Statement .set4D :=
  ⟨_, _, rfl, fun _ => (by decide : 2 = opLength 0xCB#8)⟩

theorem EncodedLength.set4E : EncodedLength.Statement .set4E :=
  ⟨_, _, rfl, fun _ => (by decide : 2 = opLength 0xCB#8)⟩

theorem EncodedLength.set4H : EncodedLength.Statement .set4H :=
  ⟨_, _, rfl, fun _ => (by decide : 2 = opLength 0xCB#8)⟩

theorem EncodedLength.set4L : EncodedLength.Statement .set4L :=
  ⟨_, _, rfl, fun _ => (by decide : 2 = opLength 0xCB#8)⟩

theorem EncodedLength.set4IndHl : EncodedLength.Statement .set4IndHl :=
  ⟨_, _, rfl, fun _ => (by decide : 2 = opLength 0xCB#8)⟩

theorem EncodedLength.set4A : EncodedLength.Statement .set4A :=
  ⟨_, _, rfl, fun _ => (by decide : 2 = opLength 0xCB#8)⟩

theorem EncodedLength.set5B : EncodedLength.Statement .set5B :=
  ⟨_, _, rfl, fun _ => (by decide : 2 = opLength 0xCB#8)⟩

theorem EncodedLength.set5C : EncodedLength.Statement .set5C :=
  ⟨_, _, rfl, fun _ => (by decide : 2 = opLength 0xCB#8)⟩

theorem EncodedLength.set5D : EncodedLength.Statement .set5D :=
  ⟨_, _, rfl, fun _ => (by decide : 2 = opLength 0xCB#8)⟩

theorem EncodedLength.set5E : EncodedLength.Statement .set5E :=
  ⟨_, _, rfl, fun _ => (by decide : 2 = opLength 0xCB#8)⟩

theorem EncodedLength.set5H : EncodedLength.Statement .set5H :=
  ⟨_, _, rfl, fun _ => (by decide : 2 = opLength 0xCB#8)⟩

theorem EncodedLength.set5L : EncodedLength.Statement .set5L :=
  ⟨_, _, rfl, fun _ => (by decide : 2 = opLength 0xCB#8)⟩

theorem EncodedLength.set5IndHl : EncodedLength.Statement .set5IndHl :=
  ⟨_, _, rfl, fun _ => (by decide : 2 = opLength 0xCB#8)⟩

theorem EncodedLength.set5A : EncodedLength.Statement .set5A :=
  ⟨_, _, rfl, fun _ => (by decide : 2 = opLength 0xCB#8)⟩

theorem EncodedLength.set6B : EncodedLength.Statement .set6B :=
  ⟨_, _, rfl, fun _ => (by decide : 2 = opLength 0xCB#8)⟩

theorem EncodedLength.set6C : EncodedLength.Statement .set6C :=
  ⟨_, _, rfl, fun _ => (by decide : 2 = opLength 0xCB#8)⟩

theorem EncodedLength.set6D : EncodedLength.Statement .set6D :=
  ⟨_, _, rfl, fun _ => (by decide : 2 = opLength 0xCB#8)⟩

theorem EncodedLength.set6E : EncodedLength.Statement .set6E :=
  ⟨_, _, rfl, fun _ => (by decide : 2 = opLength 0xCB#8)⟩

theorem EncodedLength.set6H : EncodedLength.Statement .set6H :=
  ⟨_, _, rfl, fun _ => (by decide : 2 = opLength 0xCB#8)⟩

theorem EncodedLength.set6L : EncodedLength.Statement .set6L :=
  ⟨_, _, rfl, fun _ => (by decide : 2 = opLength 0xCB#8)⟩

theorem EncodedLength.set6IndHl : EncodedLength.Statement .set6IndHl :=
  ⟨_, _, rfl, fun _ => (by decide : 2 = opLength 0xCB#8)⟩

theorem EncodedLength.set6A : EncodedLength.Statement .set6A :=
  ⟨_, _, rfl, fun _ => (by decide : 2 = opLength 0xCB#8)⟩

theorem EncodedLength.set7B : EncodedLength.Statement .set7B :=
  ⟨_, _, rfl, fun _ => (by decide : 2 = opLength 0xCB#8)⟩

theorem EncodedLength.set7C : EncodedLength.Statement .set7C :=
  ⟨_, _, rfl, fun _ => (by decide : 2 = opLength 0xCB#8)⟩

theorem EncodedLength.set7D : EncodedLength.Statement .set7D :=
  ⟨_, _, rfl, fun _ => (by decide : 2 = opLength 0xCB#8)⟩

theorem EncodedLength.set7E : EncodedLength.Statement .set7E :=
  ⟨_, _, rfl, fun _ => (by decide : 2 = opLength 0xCB#8)⟩

theorem EncodedLength.set7H : EncodedLength.Statement .set7H :=
  ⟨_, _, rfl, fun _ => (by decide : 2 = opLength 0xCB#8)⟩

theorem EncodedLength.set7L : EncodedLength.Statement .set7L :=
  ⟨_, _, rfl, fun _ => (by decide : 2 = opLength 0xCB#8)⟩

theorem EncodedLength.set7IndHl : EncodedLength.Statement .set7IndHl :=
  ⟨_, _, rfl, fun _ => (by decide : 2 = opLength 0xCB#8)⟩

theorem EncodedLength.set7A : EncodedLength.Statement .set7A :=
  ⟨_, _, rfl, fun _ => (by decide : 2 = opLength 0xCB#8)⟩

end Sys2Proof.Laws
end

