-- ==== Sys2Proof/Laws/Ppu.lean ====
section
/-! SUPPORT. What each part of a dot can do, said once: the window test, the sprite test, the fetcher, the pop, the mode
changes and the counters. -/

namespace Sys2Proof.Machine

/-! ## What no drawing reaches -/

/-- `q` differs from `p` at most in what drawing works on: the queue, the fetcher, the column, the framebuffer, the
window and discard state, and the mode. -/
structure DrawKeeps (p q : Ppu) : Prop where
  vram : q.vram = p.vram
  oam : q.oam = p.oam
  lcdc : q.lcdc = p.lcdc
  statEn : q.statEn = p.statEn
  coincidence : q.coincidence = p.coincidence
  scy : q.scy = p.scy
  scx : q.scx = p.scx
  ly : q.ly = p.ly
  lyc : q.lyc = p.lyc
  dma : q.dma = p.dma
  bgp : q.bgp = p.bgp
  obp0 : q.obp0 = p.obp0
  obp1 : q.obp1 = p.obp1
  wy : q.wy = p.wy
  wx : q.wx = p.wx
  dot : q.dot = p.dot
  frameBudget : q.frameBudget = p.frameBudget
  lineSprites : q.lineSprites = p.lineSprites

theorem DrawKeeps.refl (p : Ppu) : DrawKeeps p p := by constructor <;> rfl

theorem DrawKeeps.trans {p q r : Ppu} (h : DrawKeeps p q) (k : DrawKeeps q r) : DrawKeeps p r where
  vram := k.vram.trans h.vram
  oam := k.oam.trans h.oam
  lcdc := k.lcdc.trans h.lcdc
  statEn := k.statEn.trans h.statEn
  coincidence := k.coincidence.trans h.coincidence
  scy := k.scy.trans h.scy
  scx := k.scx.trans h.scx
  ly := k.ly.trans h.ly
  lyc := k.lyc.trans h.lyc
  dma := k.dma.trans h.dma
  bgp := k.bgp.trans h.bgp
  obp0 := k.obp0.trans h.obp0
  obp1 := k.obp1.trans h.obp1
  wy := k.wy.trans h.wy
  wx := k.wx.trans h.wx
  dot := k.dot.trans h.dot
  frameBudget := k.frameBudget.trans h.frameBudget
  lineSprites := k.lineSprites.trans h.lineSprites

/-! ## The parts of a drawing dot -/

/-- The window test does nothing, or restarts the fetcher with an empty queue (60_exceptions.md R431). -/
theorem Ppu.windowTest_cases (p : Ppu) :
    p.windowTest = p ∨
      (p.winActive = false ∧
        p.windowTest = { p with winActive := true, queue := [], ph := 0, fx := 0, discard := 0 }) := by
  unfold Ppu.windowTest
  split
  · rename_i h
    refine .inr ⟨?_, rfl⟩
    simp only [Ppu.windowHit, Bool.and_eq_true, Bool.not_eq_true'] at h
    exact h.1.1.2
  · exact .inl rfl

theorem mergeRow_length (attr : Byte) (q : List Pixel) (row : List (BitVec 2)) :
    (mergeRow attr q row).length = q.length := by
  induction q generalizing row with
  | nil => cases row <;> rfl
  | cons s q ih => cases row <;> simp [mergeRow, ih]

/-- The sprite test changes slots of the queue, never their number (R429). -/
theorem Ppu.spriteTest_eq (p : Ppu) : ∃ q, p.spriteTest = { p with queue := q } ∧ q.length = p.queue.length := by
  have key : ∀ (l : List Nat) (p : Ppu),
      ∃ q, l.foldl Ppu.spriteStep p = { p with queue := q } ∧ q.length = p.queue.length := by
    intro l
    induction l with
    | nil => exact fun p => ⟨p.queue, rfl, rfl⟩
    | cons i l ih =>
      intro p
      obtain ⟨q, h1, h2⟩ := ih (p.spriteStep i)
      rw [List.foldl_cons, h1]
      unfold Ppu.spriteStep at h2 ⊢
      split at h2
      · rw [if_pos ‹_›]
        exact ⟨q, rfl, h2.trans (mergeRow_length _ _ _)⟩
      · rw [if_neg ‹_›]
        exact ⟨q, rfl, h2⟩
  unfold Ppu.spriteTest
  split
  · exact key _ _
  · exact ⟨p.queue, rfl, rfl⟩

theorem Ppu.fetchedRow_length (p : Ppu) : p.fetchedRow.length = 8 := by simp [Ppu.fetchedRow, tileRow]

/-- A fetcher step pushes a row at phase 8 with an empty queue, stalls at phase 8 otherwise, and advances from every
other phase (R432). -/
theorem Ppu.fetcherStep_cases (p : Ppu) :
    (p.ph = 8 ∧ p.queue = [] ∧ p.fetcherStep = { p with queue := p.fetchedRow, fx := p.fx + 1, ph := 0 }) ∨
      (p.ph = 8 ∧ p.queue ≠ [] ∧ p.fetcherStep = p) ∨
      (p.ph ≠ 8 ∧ ∃ frow tileId lo hi, (p.frow ≤ 7 → frow ≤ 7) ∧
        p.fetcherStep = { p with frow, tileId, lo, hi, ph := p.ph + 1 }) := by
  unfold Ppu.fetcherStep
  split
  case h_1 h =>
    exact .inr (.inr ⟨by omega, p.tileRowNo.toNat % 8, p.vramByte p.tileMapAddr, p.lo, p.hi, fun _ => by omega, by
      rw [h]⟩)
  case h_2 h => exact .inr (.inr ⟨by omega, p.frow, p.tileId, _, p.hi, id, by rw [h]⟩)
  case h_3 h => exact .inr (.inr ⟨by omega, p.frow, p.tileId, p.lo, _, id, by rw [h]⟩)
  case h_4 h =>
    cases hq : p.queue with
    | nil => exact .inl ⟨h, rfl, by simp⟩
    | cons x q => exact .inr (.inl ⟨h, by simp, by simp⟩)
  case h_5 h => exact .inr (.inr ⟨h, p.frow, p.tileId, p.lo, p.hi, id, rfl⟩)

/-- A pop takes nothing from an empty queue, discards, or writes one framebuffer cell and moves the column on (R434). -/
theorem Ppu.popPixel_cases (p : Ppu) :
    (p.queue = [] ∧ p.popPixel = p) ∨
      (∃ x q, p.queue = x :: q ∧ 0 < p.discard ∧ p.popPixel = { p with queue := q, discard := p.discard - 1 }) ∨
      (∃ x q fb, p.queue = x :: q ∧ p.discard = 0 ∧
        (p.ly.toNat < 144 → p.col < 160 → Cells.ok p.fb (160 * 144) → Cells.ok fb (160 * 144)) ∧
        p.popPixel = { p with
          queue := q, fb := fb, col := p.col + 1, mode := if p.col + 1 = 160 then .hblank else p.mode }) := by
  unfold Ppu.popPixel
  split
  · exact .inl ⟨‹_›, rfl⟩
  · rename_i x q hq
    split
    · exact .inr (.inl ⟨x, q, hq, ‹_›, rfl⟩)
    · refine .inr (.inr ⟨x, q, _, hq, by omega, fun h1 h2 h3 => Cells.write_ok h3 _ ?_, rfl⟩)
      unfold fbIndex
      omega

/-- Drawing reaches only what `DrawKeeps` says. -/
theorem Ppu.drawDot_keeps (p : Ppu) : DrawKeeps p p.drawDot := by
  have h1 : DrawKeeps p p.windowTest := by
    rcases p.windowTest_cases with h | ⟨-, h⟩ <;> rw [h] <;> constructor <;> rfl
  have h2 : ∀ p : Ppu, DrawKeeps p p.spriteTest := by
    intro p; obtain ⟨q, h, -⟩ := p.spriteTest_eq; rw [h]; constructor <;> rfl
  have h3 : ∀ p : Ppu, DrawKeeps p p.fetcherStep := by
    intro p
    rcases p.fetcherStep_cases with ⟨-, -, h⟩ | ⟨-, -, h⟩ | ⟨-, _, _, _, _, -, h⟩ <;> rw [h] <;> constructor <;> rfl
  have h4 : ∀ p : Ppu, DrawKeeps p p.popPixel := by
    intro p
    rcases p.popPixel_cases with ⟨-, h⟩ | ⟨_, _, -, -, h⟩ | ⟨_, _, _, -, -, -, h⟩ <;> rw [h] <;> constructor <;> rfl
  exact ((h1.trans (h2 _)).trans (h3 _)).trans (h4 _)

/-! ## Sprite search -/

/-- The sprite search selects at most ten entries of the forty (R425). -/
theorem Ppu.oamSearch_bounds (p : Ppu) :
    p.oamSearch.lineSprites.length ≤ 10 ∧ ∀ i ∈ p.oamSearch.lineSprites, i < 40 := by
  refine ⟨List.length_take_le _ _, fun i hi => ?_⟩
  exact List.mem_range.1 (List.mem_filter.1 (List.mem_of_mem_take hi)).1

/-! ## The counters -/

/-- The line and dot counters after a dot (R426). -/
theorem Ppu.advance_cases (p : Ppu) :
    (p.dot + 1 = 456 ∧
      p.advance = { p with dot := 0, ph := 0, ly := nextLine p.ly, frameBudget := p.frameBudget - 1 }) ∨
      (p.dot + 1 ≠ 456 ∧ p.advance = { p with dot := p.dot + 1, frameBudget := p.frameBudget - 1 }) := by
  unfold Ppu.advance
  split
  · exact .inl ⟨‹_›, rfl⟩
  · exact .inr ⟨‹_›, rfl⟩

/-- The number of the next line (R426). -/
theorem nextLine_toNat (ly : Byte) (h : ly.toNat ≤ 153) :
    (nextLine ly).toNat = if ly.toNat = 153 then 0 else ly.toNat + 1 := by
  unfold nextLine
  by_cases he : ly = 153#8
  · subst he; rfl
  · have hn : ly.toNat ≠ 153 := fun h => he (BitVec.eq_of_toNat_eq h)
    rw [if_neg he, if_neg hn, BitVec.toNat_add]
    simp
    omega

/-- A dot's work does not move the scan, and reloads an exhausted frame budget (R424). -/
theorem Ppu.dotWork_place (p : Ppu) :
    p.dotWork.ly = p.ly ∧ p.dotWork.dot = p.dot ∧
      p.dotWork.frameBudget = (if p.frameBudget = 0 then 70224 else p.frameBudget) := by
  have h1 : p.reload.ly = p.ly ∧ p.reload.dot = p.dot ∧
      p.reload.frameBudget = (if p.frameBudget = 0 then 70224 else p.frameBudget) := by
    unfold Ppu.reload
    split <;> exact ⟨rfl, rfl, rfl⟩
  have h2 : ∀ q : Ppu, q.enterMode.ly = q.ly ∧ q.enterMode.dot = q.dot ∧
      q.enterMode.frameBudget = q.frameBudget := by
    intro q
    unfold Ppu.enterMode
    split <;> (try split) <;> (try split) <;> exact ⟨rfl, rfl, rfl⟩
  have h3 : ∀ q : Ppu, q.drawPhase.ly = q.ly ∧ q.drawPhase.dot = q.dot ∧
      q.drawPhase.frameBudget = q.frameBudget := by
    intro q
    unfold Ppu.drawPhase
    split
    · exact ⟨q.drawDot_keeps.ly, q.drawDot_keeps.dot, q.drawDot_keeps.frameBudget⟩
    · exact ⟨rfl, rfl, rfl⟩
  exact ⟨((h3 _).1.trans (h2 _).1).trans h1.1, ((h3 _).2.1.trans (h2 _).2.1).trans h1.2.1,
    ((h3 _).2.2.trans (h2 _).2.2).trans h1.2.2⟩

/-- A dot changes the pixel processor and the interrupt requests only (R424, R436, R437). -/
theorem ppuDot_eq (s : State) : ∃ f, ppuDot s = { s with ppu := s.ppu.dotWork.advance, bus.iflag := f } := by
  unfold ppuDot Bus.raiseIf
  extract_lets p
  split <;> split <;> exact ⟨_, rfl⟩

end Sys2Proof.Machine
end

