-- ==== Sys2Proof/Laws/Tick.lean ====
section
/-! SUPPORT. What a CPU tick can do, said once: it always answers a next state, reaches nothing outside the CPU that a
bus write does not but the invalid flag, and keeps the CPU's invariant. -/

namespace Sys2Proof.Machine

/-- What a CPU tick leaves: everything a bus write cannot reach, the invalid flag aside, which can only be set. -/
structure Ticked (s t : State) : Prop where
  keeps : StoreKeeps { s with bus.invalid := t.bus.invalid } t
  invalid : s.bus.invalid = true → t.bus.invalid = true
  cpu : CpuInv s → CpuInv t

theorem Ticked.refl (s : State) : Ticked s s := ⟨.refl s, id, id⟩

/-- A change of the CPU alone before a tick. -/
theorem Ticked.ofCpu {s t : State} (c : Cpu) (h : Ticked { s with cpu := c } t)
    (hc : CpuInv s → CpuInv { s with cpu := c }) : Ticked s t :=
  ⟨{ h.keeps with memory := fun hm => h.keeps.memory { hm with } }, h.invalid, fun hs => h.cpu (hc hs)⟩

/-- Executing an instruction of a valid machine at a boundary keeps the CPU's invariant. -/
theorem exec_ticked (i : Instr) (s : State) (hv : s.bus.invalid = false) (hw : s.cpu.wait = 0)
    (hq : s.cpu.haltBug = false) : ∃ t, exec i s = .next t ∧ Ticked s t := by
  rcases exec_cases i s with ⟨t, h, hr⟩ | h
  · refine ⟨t, h, ?_, fun hi => hr.keeps.invalid.trans hi, fun hc => ⟨hr.flagsLow hc.flagsLow, hr.wait, ?_, ?_, ?_⟩⟩
    · rw [hr.keeps.invalid]; exact hr.keeps
    · intro hb
      rcases hr.haltBug hb with hb | hb
      · rw [hq] at hb; cases hb
      · exact hb
    · intro he
      rw [hr.keeps.cfg]
      exact (hr.eiPending he).elim hc.eiDelayed id
    · intro hi
      rw [hr.keeps.invalid, hv] at hi
      cases hi
  · exact ⟨_, h, .refl { s with bus.invalid := true }, fun _ => rfl, fun hc => { hc with invalidIdle := fun _ => hw }⟩

theorem enterInterrupt_ticked (i : IrqSource) (s : State) (hv : s.bus.invalid = false) :
    Ticked s (enterInterrupt i s) := by
  have hk := enterInterrupt_keeps i s
  have hc := enterInterrupt_cpu i s
  refine ⟨by rw [hk.invalid]; exact hk, fun h => hk.invalid.trans h, fun h => ⟨?_, ?_, ?_, ?_, ?_⟩⟩
  · rw [hc]; exact h.flagsLow
  · rw [hc]; exact (by decide : 19 ≤ 23)
  · rw [hc]; exact fun _ => rfl
  · rw [hc]; exact fun he => by cases he
  · rw [hk.invalid, hv]; exact fun he => by cases he

theorem cpuActive_ticked (s : State) (hv : s.bus.invalid = false) : ∃ t, cpuActive s = .next t ∧ Ticked s t := by
  unfold cpuActive
  split
  · refine ⟨_, rfl, .of_eq rfl rfl rfl rfl, id, fun h => { h with waitBound := ?_, invalidIdle := ?_ }⟩
    · exact (Nat.sub_le _ _).trans h.waitBound
    · intro hi
      rw [show s.bus.invalid = true from hi] at hv
      cases hv
  · split
    · refine ⟨_, rfl, ?_⟩
      unfold interruptEntry
      split
      · exact enterInterrupt_ticked _ s hv
      · exact .refl s
    · rename_i hw _
      have hw : (commitEi s).cpu.wait = 0 := by 
        unfold commitEi
        split <;> (show s.cpu.wait = 0; omega)
      have hb : (commitEi s).bus = s.bus := by unfold commitEi; split <;> rfl
      obtain ⟨t, h, ht⟩ := exec_ticked (nextInstr (commitEi s))
        (fetched (commitEi s) (opLength (busRead (commitEi s) (commitEi s).cpu.pc)))
        (by rw [fetched_bus, hb, hv]) hw rfl
      refine ⟨t, h, ?_⟩
      revert ht
      have hs : ∃ c, fetched (commitEi s) (opLength (busRead (commitEi s) (commitEi s).cpu.pc)) = { s with cpu := c } ∧
          (CpuInv s → CpuInv { s with cpu := c }) := by
        unfold commitEi
        split
        · exact ⟨_, rfl, fun h =>
            ⟨h.flagsLow, h.waitBound, fun he => (by cases he), fun he => (by cases he), h.invalidIdle⟩⟩
        · exact ⟨_, rfl, fun h =>
            ⟨h.flagsLow, h.waitBound, fun he => (by cases he), h.eiDelayed, h.invalidIdle⟩⟩
      obtain ⟨c, hc, hi⟩ := hs
      rw [hc]
      exact fun ht => ht.ofCpu c hi

/-- A CPU tick always answers, and leaves what `Ticked` says. -/
theorem cpuTick_ticked (s : State) : ∃ t, cpuTick s = .next t ∧ Ticked s t := by
  unfold cpuTick
  split
  · exact ⟨_, rfl, .refl s⟩
  · rename_i hv
    have hv : s.bus.invalid = false := by simpa using hv
    split
    · split
      · exact ⟨_, rfl, .refl s⟩
      · obtain ⟨t, h, ht⟩ := cpuActive_ticked { s with cpu.halted := false } hv
        exact ⟨t, h, ht.ofCpu _ fun hc => { hc with }⟩
    · exact cpuActive_ticked s hv

/-- The CPU's part of a step always answers, and leaves what `Ticked` says. -/
theorem cpuPhase_ticked (s : State) : ∃ t, cpuPhase s = .next t ∧ Ticked s t := by
  unfold cpuPhase
  split
  · exact ⟨_, rfl, .refl s⟩
  · exact cpuTick_ticked s

/-- The end of a step changes the divider, the timer counter and the interrupt requests only (60_exceptions.md R411,
R413, R414). -/
theorem timerTick_eq (s : State) :
    ∃ d t f, timerTick s = { s with bus.div := d, bus.tima := t, bus.iflag := f } := by
  unfold timerTick Bus.timerTick Bus.dividerTick Bus.timaIncrement
  extract_lets b
  split
  · split
    · exact ⟨b.div, b.tma, _, by simp only [b, Bus.raise]; split <;> rfl⟩
    · exact ⟨b.div, _, b.iflag, by simp only [b]; split <;> rfl⟩
  · exact ⟨b.div, b.tima, b.iflag, by simp only [b]; split <;> rfl⟩

/-- Where `AtFetch` holds, a step executes one instruction (60_exceptions.md R400, R401). -/
theorem step_of_atFetch {s : State} (h : AtFetch s) : step s = afterCpu (executeOne (commitEi (countTick s))) := by
  have hp : pend s ≠ 0#5 ↔ ∃ n, Pending s n := pend_ne_zero_iff s
  unfold step busStep cpuPhase
  rw [if_neg (by rw [countTick_cpu, h.running]; simp)]
  unfold cpuTick
  rw [if_neg (by show ¬ s.bus.invalid = true; rw [h.valid]; simp),
    if_neg (by show ¬ s.cpu.halted = true; rw [h.awake]; simp)]
  unfold cpuActive
  rw [if_neg (by show ¬ 0 < s.cpu.wait; rw [h.idle]; simp), if_neg]
  show ¬ (s.cpu.ime && pend s != 0#5) = true
  intro hd
  simp only [Bool.and_eq_true, bne_iff_ne] at hd
  obtain ⟨n, hn⟩ := hp.1 hd.2
  exact h.masked hd.1 n hn

/-- A step is a CPU phase after the tick count, then the pixel processor and the timer (60_exceptions.md R400). -/
theorem step_cases (s : State) :
    ∃ t, step s = .next (timerTick (ppuDot t)) ∧ cpuPhase (countTick s) = .next t ∧ Ticked (countTick s) t := by
  obtain ⟨t, h, ht⟩ := cpuPhase_ticked (countTick s)
  exact ⟨t, by simp only [step, busStep, h, afterCpu, finishTick], h, ht⟩

end Sys2Proof.Machine
end

