-- ==== Sys2Proof/Tests/Slice0.lean ====
section
/-! SUPPORT. Tests: the ill-formed term, words decoded bit by bit, the worked vectors of 95_test_vectors.md (the numbers
`V<n>` and `M<n>` in the names are its), and for every obligation with hypotheses a state and operands that meet
them. -/

namespace Sys2Proof.Tests

open Sys2Proof Sys2Proof.Machine

/-! ## Well-formedness -/

/-- The prefix byte alone is no complete instruction. -/
theorem test_prefix_alone_ill_formed : Instr.prefixCb.wellFormed = false := by decide

theorem test_nop_well_formed : Instr.nop.wellFormed = true := by decide

/-! ## Words, bit by bit (30_encoding.md R141 to R155) -/

theorem test_decode_control : decode [0b11_0_10_100#8, 0x34#8, 0x12#8] = .ok (.callNcN16 0x1234#16, []) := rfl

theorem test_decode_jump : decode [0b00_1_11_000#8, 0xFC#8] = .ok (.jrCE8 0xFC#8, []) := rfl

theorem test_decode_load8 : decode [0b01_010_110#8] = .ok (.ldDIndHl, []) := rfl

theorem test_decode_load8_high : decode [0b11_110_000#8, 0x44#8] = .ok (.ldhAIndN8 0x44#8, []) := rfl

theorem test_decode_load16 : decode [0b00_11_0001#8, 0xF0#8, 0xDF#8] = .ok (.ldSpN16 0xDFF0#16, []) := rfl

theorem test_decode_incdec : decode [0b00_110_101#8] = .ok (.decIndHl, []) := rfl

theorem test_decode_add16 : decode [0b00_10_1001#8] = .ok (.addHlHl, []) := rfl

theorem test_decode_alu : decode [0b10_001_011#8] = .ok (.adcAE, []) := rfl

theorem test_decode_alu_immediate : decode [0b11_111_110#8, 0x40#8] = .ok (.cpAN8 0x40#8, []) := rfl

theorem test_decode_accumulator : decode [0b00_100_111#8] = .ok (.daa, []) := rfl

theorem test_decode_extended_rotate : decode [0xCB#8, 0b00_101_110#8] = .ok (.sraIndHl, []) := rfl

theorem test_decode_extended_bit : decode [0xCB#8, 0b11_011_000#8] = .ok (.set3B, []) := rfl

theorem test_decode_system : decode [0b01_110_110#8] = .ok (.halt, []) := rfl

theorem test_decode_undefined : decode [0b11_110_100#8] = .ok (.illegalF4, []) := rfl

theorem test_decode_truncated : decode [0xC3#8, 0x00#8] = .error .truncated := rfl

theorem test_table_word_extended : decodeTableWord 16 0xCB46 = some .bit0IndHl := rfl

theorem test_table_word_operand : decodeTableWord 24 0x1234C3 = some (.jpN16 0x1234#16) := rfl

theorem test_table_word_prefix : decodeTableWord 8 0xCB = some .prefixCb := rfl

/-! ## One step of the worked vectors -/

/-- The state after one step with an instruction's bytes where that step fetches. -/
def stepOf (s : State) (bytes : List Byte) : State :=
  match step (placeBytes s bytes) with
  | .next t => t
  | _ => s

/-- The state after one step. -/
def stepped (s : State) : State :=
  match step s with
  | .next t => t
  | _ => s

theorem test_v1_jr_p5 :
    let t := stepOf State.reset [0x18#8, 0x05#8]
    t.cpu.pc = 0x0107#16 ∧ t.cpu.wait = 11 := by
  decide

theorem test_v3_jr_m128 :
    let t := stepOf ({ State.reset with cpu.pc := 0xC000#16 }) [0x18#8, 0x80#8]
    t.cpu.pc = 0xBF82#16 ∧ t.cpu.wait = 11 := by
  decide

theorem test_v6_jr_nz_p3 :
    let t := stepOf ({ State.reset with cpu.f := 0x80#8 }) [0x20#8, 0x03#8]
    t.cpu.pc = 0x0102#16 ∧ t.cpu.wait = 7 := by
  decide

theorem test_v9_jr_c_m4 :
    let t := stepOf ({ State.reset with cpu.f := 0x10#8 }) [0x38#8, 0xFC#8]
    t.cpu.pc = 0x00FE#16 ∧ t.cpu.wait = 11 := by
  decide

theorem test_v10_jp_1234 :
    let t := stepOf State.reset [0xC3#8, 0x34#8, 0x12#8]
    t.cpu.pc = 0x1234#16 ∧ t.cpu.wait = 15 := by
  decide

theorem test_v12_jp_c_8000 :
    let t := stepOf ({ State.reset with cpu.f := 0x10#8 }) [0xDA#8, 0x00#8, 0x80#8]
    t.cpu.pc = 0x8000#16 ∧ t.cpu.wait = 15 := by
  decide

theorem test_v13_jp_hl :
    let t := stepOf ({ State.reset with cpu.h := 0xC1#8, cpu.l := 0x23#8 }) [0xE9#8]
    t.cpu.pc = 0xC123#16 ∧ t.cpu.wait = 3 := by
  decide

theorem test_v14_call_2000 :
    let t := stepOf ({ State.reset with cpu.sp := 0xDFF0#16 }) [0xCD#8, 0x00#8, 0x20#8]
    t.cpu.sp = 0xDFEE#16 ∧ t.cpu.pc = 0x2000#16 ∧ busRead t 0xDFEF#16 = 0x01#8 ∧ busRead t 0xDFEE#16 = 0x03#8 ∧
    t.cpu.wait = 23 := by
  decide

theorem test_v15_call_2000 :
    let t := stepOf ({ State.reset with cpu.sp := 0x0000#16 }) [0xCD#8, 0x00#8, 0x20#8]
    t.cpu.sp = 0xFFFE#16 ∧ t.cpu.pc = 0x2000#16 ∧ busRead t 0xFFFF#16 = 0x01#8 ∧ busRead t 0xFFFE#16 = 0x03#8 ∧
    t.cpu.wait = 23 := by
  decide

theorem test_v17_call_nc_2000 :
    let t := stepOf ({ State.reset with cpu.f := 0x00#8, cpu.sp := 0xDFF0#16 }) [0xD4#8, 0x00#8, 0x20#8]
    t.cpu.sp = 0xDFEE#16 ∧ t.cpu.pc = 0x2000#16 ∧ busRead t 0xDFEF#16 = 0x01#8 ∧ busRead t 0xDFEE#16 = 0x03#8 ∧
    t.cpu.wait = 23 := by
  decide

theorem test_v18_ret :
    let t := stepOf ({ State.reset with cpu.sp := 0xDFEE#16, bus.wram := [(0x1FEE, 0x03#8), (0x1FEF, 0x01#8)] })
      [0xC9#8]
    t.cpu.sp = 0xDFF0#16 ∧ t.cpu.pc = 0x0103#16 ∧ t.cpu.wait = 15 := by
  decide

theorem test_v20_ret_z :
    let t := stepOf ({ State.reset with
        cpu.f := 0x80#8
        cpu.sp := 0xDFEE#16
        bus.wram := [(0x1FEE, 0x03#8), (0x1FEF, 0x01#8)] })
      [0xC8#8]
    t.cpu.sp = 0xDFF0#16 ∧ t.cpu.pc = 0x0103#16 ∧ t.cpu.wait = 19 := by
  decide

theorem test_v21_reti :
    let t := stepOf ({ State.reset with cpu.sp := 0xDFEE#16, bus.wram := [(0x1FEE, 0x50#8), (0x1FEF, 0x01#8)] })
      [0xD9#8]
    t.cpu.sp = 0xDFF0#16 ∧ t.cpu.ime = true ∧ t.cpu.pc = 0x0150#16 ∧ t.cpu.wait = 15 := by
  decide

theorem test_v22_rst_28 :
    let t := stepOf ({ State.reset with cpu.sp := 0xDFF0#16 }) [0xEF#8]
    t.cpu.sp = 0xDFEE#16 ∧ t.cpu.pc = 0x0028#16 ∧ busRead t 0xDFEF#16 = 0x01#8 ∧ busRead t 0xDFEE#16 = 0x01#8 ∧
    t.cpu.wait = 15 := by
  decide

theorem test_v24_ei :
    let t := stepOf State.reset [0xFB#8]
    t.cpu.ime = true ∧ t.cpu.pc = 0x0101#16 ∧ t.cpu.wait = 3 := by
  decide

theorem test_v25_di :
    let t := stepOf ({ State.reset with cpu.ime := true }) [0xF3#8]
    t.cpu.ime = false ∧ t.cpu.pc = 0x0101#16 ∧ t.cpu.wait = 3 := by
  decide

theorem test_v26_ld_b_c :
    let t := stepOf ({ State.reset with cpu.c := 0x5A#8 }) [0x41#8]
    t.cpu.b = 0x5A#8 ∧ t.cpu.pc = 0x0101#16 ∧ t.cpu.wait = 3 := by
  decide

theorem test_v28_ld_h_hl :
    let t := stepOf ({ State.reset with cpu.h := 0xC0#8, cpu.l := 0x00#8, bus.wram := [(0x0000, 0x12#8)] }) [0x66#8]
    t.cpu.h = 0x12#8 ∧ t.cpu.pc = 0x0101#16 ∧ t.cpu.wait = 7 := by
  decide

theorem test_v29_ld_hl_e :
    let t := stepOf ({ State.reset with cpu.h := 0xC0#8, cpu.l := 0x00#8, cpu.e := 0x99#8 }) [0x73#8]
    t.cpu.pc = 0x0101#16 ∧ busRead t 0xC000#16 = 0x99#8 ∧ t.cpu.wait = 7 := by
  decide

theorem test_v32_ld_hl_55 :
    let t := stepOf ({ State.reset with cpu.h := 0xC0#8, cpu.l := 0x01#8 }) [0x36#8, 0x55#8]
    t.cpu.pc = 0x0102#16 ∧ busRead t 0xC001#16 = 0x55#8 ∧ t.cpu.wait = 11 := by
  decide

theorem test_v35_ld_hlp_a :
    let t := stepOf ({ State.reset with cpu.h := 0xC0#8, cpu.l := 0xFF#8, cpu.a := 0x33#8 }) [0x22#8]
    t.cpu.h = 0xC1#8 ∧ t.cpu.l = 0x00#8 ∧ t.cpu.pc = 0x0101#16 ∧ busRead t 0xC0FF#16 = 0x33#8 ∧ t.cpu.wait = 7 := by
  decide

theorem test_v36_ld_hlp_a :
    let t := stepOf ({ State.reset with cpu.h := 0xFF#8, cpu.l := 0xFF#8, cpu.a := 0x1F#8 }) [0x22#8]
    t.cpu.h = 0x00#8 ∧ t.cpu.l = 0x00#8 ∧ t.cpu.pc = 0x0101#16 ∧ busRead t 0xFFFF#16 = 0x1F#8 ∧ t.cpu.wait = 7 := by
  decide

theorem test_v42_ld_a_hlm :
    let t := stepOf ({ State.reset with cpu.h := 0xC0#8, cpu.l := 0x07#8, bus.wram := [(0x0007, 0x69#8)] }) [0x3A#8]
    t.cpu.a = 0x69#8 ∧ t.cpu.l = 0x06#8 ∧ t.cpu.pc = 0x0101#16 ∧ t.cpu.wait = 7 := by
  decide

theorem test_v43_ldh_80_a :
    let t := stepOf ({ State.reset with cpu.a := 0x5C#8 }) [0xE0#8, 0x80#8]
    t.cpu.pc = 0x0102#16 ∧ busRead t 0xFF80#16 = 0x5C#8 ∧ t.cpu.wait = 11 := by
  decide

theorem test_v48_ldh_a_c :
    let t := stepOf ({ State.reset with cpu.c := 0x0F#8 }) [0xF2#8]
    t.cpu.a = 0xE0#8 ∧ t.cpu.pc = 0x0101#16 ∧ t.cpu.wait = 7 := by
  decide

theorem test_v50_ld_0100_a :
    let t := stepOf ({ State.reset with cpu.a := 0x9A#8 }) [0xEA#8, 0x00#8, 0x01#8]
    t.cpu.pc = 0x0103#16 ∧ busRead t 0x0100#16 = 0xEA#8 ∧ t.cpu.wait = 15 := by
  decide

theorem test_v51_ld_a_e010 :
    let t := stepOf ({ State.reset with bus.wram := [(0x0010, 0x3D#8)] }) [0xFA#8, 0x10#8, 0xE0#8]
    t.cpu.a = 0x3D#8 ∧ t.cpu.pc = 0x0103#16 ∧ t.cpu.wait = 15 := by
  decide

theorem test_v52_ld_bc_1234 :
    let t := stepOf State.reset [0x01#8, 0x34#8, 0x12#8]
    t.cpu.b = 0x12#8 ∧ t.cpu.c = 0x34#8 ∧ t.cpu.pc = 0x0103#16 ∧ t.cpu.wait = 11 := by
  decide

theorem test_v54_ld_c100_sp :
    let t := stepOf ({ State.reset with cpu.sp := 0xFFF8#16 }) [0x08#8, 0x00#8, 0xC1#8]
    t.cpu.pc = 0x0103#16 ∧ busRead t 0xC100#16 = 0xF8#8 ∧ busRead t 0xC101#16 = 0xFF#8 ∧ t.cpu.wait = 19 := by
  decide

theorem test_v56_ld_hl_spp2 :
    let t := stepOf ({ State.reset with cpu.sp := 0xFFF8#16 }) [0xF8#8, 0x02#8]
    t.cpu.f = 0x00#8 ∧ t.cpu.h = 0xFF#8 ∧ t.cpu.l = 0xFA#8 ∧ t.cpu.pc = 0x0102#16 ∧ t.cpu.wait = 11 := by
  decide

theorem test_v59_ld_hl_spm1 :
    let t := stepOf ({ State.reset with cpu.sp := 0x0001#16 }) [0xF8#8, 0xFF#8]
    t.cpu.f = 0x30#8 ∧ t.cpu.h = 0x00#8 ∧ t.cpu.l = 0x00#8 ∧ t.cpu.pc = 0x0102#16 ∧ t.cpu.wait = 11 := by
  decide

theorem test_v61_push_bc :
    let t := stepOf ({ State.reset with cpu.b := 0x12#8, cpu.c := 0x34#8, cpu.sp := 0xDFF0#16 }) [0xC5#8]
    t.cpu.sp = 0xDFEE#16 ∧ t.cpu.pc = 0x0101#16 ∧ busRead t 0xDFEF#16 = 0x12#8 ∧ busRead t 0xDFEE#16 = 0x34#8 ∧
    t.cpu.wait = 15 := by
  decide

theorem test_v64_pop_af :
    let t := stepOf ({ State.reset with cpu.sp := 0xDFEE#16, bus.wram := [(0x1FEE, 0xFF#8), (0x1FEF, 0x12#8)] })
      [0xF1#8]
    t.cpu.a = 0x12#8 ∧ t.cpu.f = 0xF0#8 ∧ t.cpu.sp = 0xDFF0#16 ∧ t.cpu.pc = 0x0101#16 ∧ t.cpu.wait = 11 := by
  decide

theorem test_v66_inc_b :
    let t := stepOf ({ State.reset with cpu.b := 0x0F#8, cpu.f := 0x10#8 }) [0x04#8]
    t.cpu.f = 0x30#8 ∧ t.cpu.b = 0x10#8 ∧ t.cpu.pc = 0x0101#16 ∧ t.cpu.wait = 3 := by
  decide

theorem test_v69_inc_hl :
    let t := stepOf ({ State.reset with
        cpu.h := 0xC0#8
        cpu.l := 0x00#8
        cpu.f := 0x00#8
        bus.wram := [(0x0000, 0x0F#8)] })
      [0x34#8]
    t.cpu.f = 0x20#8 ∧ t.cpu.pc = 0x0101#16 ∧ busRead t 0xC000#16 = 0x10#8 ∧ t.cpu.wait = 11 := by
  decide

theorem test_v72_dec_d :
    let t := stepOf ({ State.reset with cpu.d := 0x00#8, cpu.f := 0x10#8 }) [0x15#8]
    t.cpu.f = 0x70#8 ∧ t.cpu.d = 0xFF#8 ∧ t.cpu.pc = 0x0101#16 ∧ t.cpu.wait = 3 := by
  decide

theorem test_v74_dec_hl :
    let t := stepOf ({ State.reset with cpu.h := 0xC0#8, cpu.l := 0x00#8, cpu.f := 0x00#8, bus.wram := [] })
      [0x35#8]
    t.cpu.f = 0x60#8 ∧ t.cpu.pc = 0x0101#16 ∧ busRead t 0xC000#16 = 0xFF#8 ∧ t.cpu.wait = 11 := by
  decide

theorem test_v75_inc_bc :
    let t := stepOf ({ State.reset with cpu.b := 0xFF#8, cpu.c := 0xFF#8 }) [0x03#8]
    t.cpu.b = 0x00#8 ∧ t.cpu.c = 0x00#8 ∧ t.cpu.pc = 0x0101#16 ∧ t.cpu.wait = 7 := by
  decide

theorem test_v78_dec_de :
    let t := stepOf ({ State.reset with cpu.d := 0x01#8, cpu.e := 0x00#8 }) [0x1B#8]
    t.cpu.d = 0x00#8 ∧ t.cpu.e = 0xFF#8 ∧ t.cpu.pc = 0x0101#16 ∧ t.cpu.wait = 7 := by
  decide

theorem test_v79_add_hl_bc :
    let t := stepOf ({ State.reset with
        cpu.h := 0x0F#8
        cpu.l := 0xFF#8
        cpu.b := 0x00#8
        cpu.c := 0x01#8
        cpu.f := 0x80#8 })
      [0x09#8]
    t.cpu.f = 0xA0#8 ∧ t.cpu.h = 0x10#8 ∧ t.cpu.l = 0x00#8 ∧ t.cpu.pc = 0x0101#16 ∧ t.cpu.wait = 7 := by
  decide

theorem test_v82_add_hl_sp :
    let t := stepOf ({ State.reset with cpu.h := 0xFF#8, cpu.l := 0xFF#8, cpu.sp := 0x0001#16, cpu.f := 0x00#8 })
      [0x39#8]
    t.cpu.f = 0x30#8 ∧ t.cpu.h = 0x00#8 ∧ t.cpu.l = 0x00#8 ∧ t.cpu.pc = 0x0101#16 ∧ t.cpu.wait = 7 := by
  decide

theorem test_v84_add_sp_m1 :
    let t := stepOf ({ State.reset with cpu.sp := 0x0000#16 }) [0xE8#8, 0xFF#8]
    t.cpu.f = 0x00#8 ∧ t.cpu.sp = 0xFFFF#16 ∧ t.cpu.pc = 0x0102#16 ∧ t.cpu.wait = 15 := by
  decide

theorem test_v86_add_sp_m128 :
    let t := stepOf ({ State.reset with cpu.sp := 0x0080#16 }) [0xE8#8, 0x80#8]
    t.cpu.f = 0x10#8 ∧ t.cpu.sp = 0x0000#16 ∧ t.cpu.pc = 0x0102#16 ∧ t.cpu.wait = 15 := by
  decide

theorem test_v91_adc_a_c :
    let t := stepOf ({ State.reset with cpu.a := 0xE1#8, cpu.c := 0x0F#8, cpu.f := 0x10#8 }) [0x89#8]
    t.cpu.a = 0xF1#8 ∧ t.cpu.f = 0x20#8 ∧ t.cpu.pc = 0x0101#16 ∧ t.cpu.wait = 3 := by
  decide

theorem test_v93_adc_a_a :
    let t := stepOf ({ State.reset with cpu.a := 0x80#8, cpu.f := 0x10#8 }) [0x8F#8]
    t.cpu.a = 0x01#8 ∧ t.cpu.pc = 0x0101#16 ∧ t.cpu.wait = 3 := by
  decide

theorem test_v99_sbc_a_00 :
    let t := stepOf ({ State.reset with cpu.a := 0x00#8, cpu.f := 0x10#8 }) [0xDE#8, 0x00#8]
    t.cpu.a = 0xFF#8 ∧ t.cpu.f = 0x70#8 ∧ t.cpu.pc = 0x0102#16 ∧ t.cpu.wait = 7 := by
  decide

theorem test_v101_sbc_a_a :
    let t := stepOf ({ State.reset with cpu.a := 0x77#8, cpu.f := 0x10#8 }) [0x9F#8]
    t.cpu.a = 0xFF#8 ∧ t.cpu.f = 0x70#8 ∧ t.cpu.pc = 0x0101#16 ∧ t.cpu.wait = 3 := by
  decide

theorem test_v102_and_a_l :
    let t := stepOf ({ State.reset with cpu.a := 0x5A#8, cpu.l := 0x3F#8, cpu.f := 0x10#8 }) [0xA5#8]
    t.cpu.a = 0x1A#8 ∧ t.cpu.f = 0x20#8 ∧ t.cpu.pc = 0x0101#16 ∧ t.cpu.wait = 3 := by
  decide

theorem test_v104_xor_a_a :
    let t := stepOf ({ State.reset with cpu.a := 0x5A#8, cpu.f := 0xF0#8 }) [0xAF#8]
    t.cpu.a = 0x00#8 ∧ t.cpu.f = 0x80#8 ∧ t.cpu.pc = 0x0101#16 ∧ t.cpu.wait = 3 := by
  decide

theorem test_v107_or_a_hl :
    let t := stepOf ({ State.reset with
        cpu.a := 0x5A#8
        cpu.h := 0xC0#8
        cpu.l := 0x00#8
        cpu.f := 0xF0#8
        bus.wram := [(0x0000, 0x0F#8)] })
      [0xB6#8]
    t.cpu.a = 0x5F#8 ∧ t.cpu.f = 0x00#8 ∧ t.cpu.pc = 0x0101#16 ∧ t.cpu.wait = 7 := by
  decide

theorem test_v110_cp_a_40 :
    let t := stepOf ({ State.reset with cpu.a := 0x3C#8, cpu.f := 0x00#8 }) [0xFE#8, 0x40#8]
    t.cpu.f = 0x50#8 ∧ t.cpu.pc = 0x0102#16 ∧ t.cpu.wait = 7 := by
  decide

theorem test_v112_rlca :
    let t := stepOf ({ State.reset with cpu.a := 0x85#8, cpu.f := 0xF0#8 }) [0x07#8]
    t.cpu.a = 0x0B#8 ∧ t.cpu.f = 0x10#8 ∧ t.cpu.pc = 0x0101#16 ∧ t.cpu.wait = 3 := by
  decide

theorem test_v115_rla :
    let t := stepOf ({ State.reset with cpu.a := 0x95#8, cpu.f := 0x10#8 }) [0x17#8]
    t.cpu.a = 0x2B#8 ∧ t.cpu.pc = 0x0101#16 ∧ t.cpu.wait = 3 := by
  decide

theorem test_v117_rra :
    let t := stepOf ({ State.reset with cpu.a := 0x81#8, cpu.f := 0x00#8 }) [0x1F#8]
    t.cpu.a = 0x40#8 ∧ t.cpu.f = 0x10#8 ∧ t.cpu.pc = 0x0101#16 ∧ t.cpu.wait = 3 := by
  decide

theorem test_v118_rra :
    let t := stepOf ({ State.reset with cpu.a := 0x01#8, cpu.f := 0x80#8 }) [0x1F#8]
    t.cpu.a = 0x00#8 ∧ t.cpu.f = 0x10#8 ∧ t.cpu.pc = 0x0101#16 ∧ t.cpu.wait = 3 := by
  decide

theorem test_v119_cpl :
    let t := stepOf ({ State.reset with cpu.a := 0x35#8, cpu.f := 0x90#8 }) [0x2F#8]
    t.cpu.a = 0xCA#8 ∧ t.cpu.f = 0xF0#8 ∧ t.cpu.pc = 0x0101#16 ∧ t.cpu.wait = 3 := by
  decide

theorem test_v120_scf :
    let t := stepOf ({ State.reset with cpu.f := 0xE0#8 }) [0x37#8]
    t.cpu.f = 0x90#8 ∧ t.cpu.pc = 0x0101#16 ∧ t.cpu.wait = 3 := by
  decide

theorem test_v122_ccf :
    let t := stepOf ({ State.reset with cpu.f := 0x60#8 }) [0x3F#8]
    t.cpu.f = 0x10#8 ∧ t.cpu.pc = 0x0101#16 ∧ t.cpu.wait = 3 := by
  decide

theorem test_v123_daa :
    let t := stepOf ({ State.reset with cpu.a := 0x7D#8, cpu.f := 0x00#8 }) [0x27#8]
    t.cpu.a = 0x83#8 ∧ t.cpu.pc = 0x0101#16 ∧ t.cpu.wait = 3 := by
  decide

theorem test_v124_daa :
    let t := stepOf ({ State.reset with cpu.a := 0x9A#8, cpu.f := 0x00#8 }) [0x27#8]
    t.cpu.a = 0x00#8 ∧ t.cpu.f = 0x90#8 ∧ t.cpu.pc = 0x0101#16 ∧ t.cpu.wait = 3 := by
  decide

theorem test_v127_daa :
    let t := stepOf ({ State.reset with cpu.a := 0x4B#8, cpu.f := 0x60#8 }) [0x27#8]
    t.cpu.a = 0x45#8 ∧ t.cpu.f = 0x40#8 ∧ t.cpu.pc = 0x0101#16 ∧ t.cpu.wait = 3 := by
  decide

theorem test_v131_rlc_b :
    let t := stepOf ({ State.reset with cpu.b := 0x85#8, cpu.f := 0x00#8 }) [0xCB#8, 0x00#8]
    t.cpu.f = 0x10#8 ∧ t.cpu.b = 0x0B#8 ∧ t.cpu.pc = 0x0102#16 ∧ t.cpu.wait = 7 := by
  decide

theorem test_v133_rrc_c :
    let t := stepOf ({ State.reset with cpu.c := 0x01#8, cpu.f := 0x00#8 }) [0xCB#8, 0x09#8]
    t.cpu.f = 0x10#8 ∧ t.cpu.c = 0x80#8 ∧ t.cpu.pc = 0x0102#16 ∧ t.cpu.wait = 7 := by
  decide

theorem test_v135_rl_l :
    let t := stepOf ({ State.reset with cpu.l := 0x11#8, cpu.f := 0x10#8 }) [0xCB#8, 0x15#8]
    t.cpu.f = 0x00#8 ∧ t.cpu.l = 0x23#8 ∧ t.cpu.pc = 0x0102#16 ∧ t.cpu.wait = 7 := by
  decide

theorem test_v137_rr_e :
    let t := stepOf ({ State.reset with cpu.e := 0x8A#8, cpu.f := 0x10#8 }) [0xCB#8, 0x1B#8]
    t.cpu.f = 0x00#8 ∧ t.cpu.e = 0xC5#8 ∧ t.cpu.pc = 0x0102#16 ∧ t.cpu.wait = 7 := by
  decide

theorem test_v140_sra_a :
    let t := stepOf ({ State.reset with cpu.a := 0x8A#8, cpu.f := 0x00#8 }) [0xCB#8, 0x2F#8]
    t.cpu.a = 0xC5#8 ∧ t.cpu.pc = 0x0102#16 ∧ t.cpu.wait = 7 := by
  decide

theorem test_v143_swap_hl :
    let t := stepOf ({ State.reset with cpu.h := 0xC0#8, cpu.l := 0x00#8, cpu.f := 0xF0#8, bus.wram := [] })
      [0xCB#8, 0x36#8]
    t.cpu.f = 0x80#8 ∧ t.cpu.pc = 0x0102#16 ∧ busRead t 0xC000#16 = 0x00#8 ∧ t.cpu.wait = 15 := by
  decide

theorem test_v145_srl_b :
    let t := stepOf ({ State.reset with cpu.b := 0xFF#8, cpu.f := 0x00#8 }) [0xCB#8, 0x38#8]
    t.cpu.f = 0x10#8 ∧ t.cpu.b = 0x7F#8 ∧ t.cpu.pc = 0x0102#16 ∧ t.cpu.wait = 7 := by
  decide

theorem test_v146_bit_7_a :
    let t := stepOf ({ State.reset with cpu.a := 0x80#8, cpu.f := 0x10#8 }) [0xCB#8, 0x7F#8]
    t.cpu.f = 0x30#8 ∧ t.cpu.pc = 0x0102#16 ∧ t.cpu.wait = 7 := by
  decide

theorem test_v148_bit_0_hl :
    let t := stepOf ({ State.reset with
        cpu.h := 0xC0#8
        cpu.l := 0x00#8
        cpu.f := 0x50#8
        bus.wram := [(0x0000, 0xFE#8)] })
      [0xCB#8, 0x46#8]
    t.cpu.f = 0xB0#8 ∧ t.cpu.pc = 0x0102#16 ∧ t.cpu.wait = 11 := by
  decide

theorem test_v150_res_0_hl :
    let t := stepOf ({ State.reset with cpu.h := 0xC0#8, cpu.l := 0x00#8, bus.wram := [(0x0000, 0xFF#8)] })
      [0xCB#8, 0x86#8]
    t.cpu.pc = 0x0102#16 ∧ busRead t 0xC000#16 = 0xFE#8 ∧ t.cpu.wait = 15 := by
  decide

theorem test_v152_set_7_hl :
    let t := stepOf ({ State.reset with cpu.h := 0xC0#8, cpu.l := 0x00#8, bus.wram := [] }) [0xCB#8, 0xFE#8]
    t.cpu.pc = 0x0102#16 ∧ busRead t 0xC000#16 = 0x80#8 ∧ t.cpu.wait = 15 := by
  decide

/-! ## The rest of the machine -/

/-- M3: the lowest set bit of `IE & IF` wins, and only it is cleared. -/
theorem test_m3_interrupt_priority :
    let t := stepped { State.reset with
      cpu.ime := true
      cpu.sp := 0xDFF0#16
      bus.ie := 0x1F#8
      bus.iflag := 0x1E#5 }
    t.cpu.pc = 0x0048#16 ∧ t.bus.iflag = 0x1C#5 ∧ t.cpu.ime = false ∧ t.cpu.sp = 0xDFEE#16 ∧
    busRead t 0xDFEF#16 = 0x01#8 ∧ t.cpu.wait = 19 := by
  decide

/-- M4: with `IME = 0` the instruction executes and the requests stay. -/
theorem test_m4_interrupt_masked :
    let t := stepped { State.reset with bus.ie := 0x1F#8, bus.iflag := 0x1F#5 }
    t.cpu.pc = 0x0101#16 ∧ t.bus.iflag = 0x1F#5 ∧ t.cpu.wait = 3 := by
  decide

/-- M13, tick 16: the timer overflows, reloads and requests in the same tick. -/
theorem test_m13_timer_overflow :
    let t := stepped { State.reset with
      bus.tac := 5#3
      bus.tima := 0xFF#8
      bus.tma := 0xAB#8
      bus.tick := 15 }
    t.bus.tima = 0xAB#8 ∧ t.bus.iflag = 0x04#5 := by
  decide

/-- M17, tick 255: the divider counts. -/
theorem test_m17_divider :
    (stepped { State.reset with bus.tick := 254 }).bus.div = 0x01#8 ∧
    (stepped { State.reset with bus.tick := 253 }).bus.div = 0x00#8 := by
  decide

/-- M26: the lcd-status request is a level. -/
theorem test_m26_stat_level :
    let t := stepped { State.reset with ppu := State.reset.ppu.regStore 0xFF41 0x40#8 }
    t.bus.iflag = 0x02#5 ∧ busRead t 0xFF41#16 = 0xC6#8 := by
  decide

/-- M36: with 8×8 sprites, of the entries with `y` = 9, 8, 16, 17 the first and third cover line 0. -/
theorem test_m36_sprite_search :
    (stepped { State.reset with
      ppu.lcdc := 0x93#8
      ppu.oam := [(0, 9#8), (4, 8#8), (8, 16#8), (12, 17#8)] }).ppu.lineSprites = [0, 2] := by
  decide

/-- A banked cartridge for the tests: 128 ROM banks, 4 RAM banks. -/
def banked (r : BankRegs) : State :=
  { State.reset with cart := { ctrl := .banked r, romBanks := 128, ramBanks := 4, rom := [], xram := [] } }

/-- S6: a write of 0x20 to the bank number with `bank2 = 1` selects bank 0x21. -/
theorem test_s6_bank_number :
    (busWrite (banked { BankRegs.reset with bank2 := 1#2 }) 0x2000#16 0x20#8).cart.mapRead 0x4000 =
      some (.rom, 0x21 * 0x4000) := by
  decide

/-- An undefined first byte latches the invalid flag (R343); `RunInstruction` reports failure. -/
theorem test_undefined_opcode :
    (stepOf State.reset [0xED#8]).bus.invalid = true ∧
    (stepOf State.reset [0xED#8]).cpu.pc = 0x0101#16 := by
  decide

/-- V154, first step: the halt quirk is set and the CPU does not halt. -/
theorem test_v154_halt_quirk :
    let t := stepOf { State.reset with bus.ie := 0x01#8, bus.iflag := 0x01#5 } [0x76#8, 0x3C#8]
    t.cpu.haltBug = true ∧ t.cpu.halted = false ∧ t.cpu.pc = 0x0101#16 := by
  decide

/-- V154, second step: the byte after `HALT` is executed without moving `PC`. -/
theorem test_v154_quirk_consumed :
    let t := stepped { State.reset with
      cpu.a := 0x00#8
      cpu.haltBug := true
      cart.rom := [(0x100, 0x3C#8)] }
    t.cpu.a = 0x01#8 ∧ t.cpu.pc = 0x0100#16 ∧ t.cpu.haltBug = false := by
  decide

/-- `STOP` stops the CPU (R342). -/
theorem test_stop : (stepOf State.reset [0x10#8]).cpu.stopped = true := by decide

/-! ## Witnesses

For every obligation with hypotheses, a state and operands that meet all of them; for one with several clauses, one
for each, at the ends of its range. -/

/-- A result is a next state with a property. -/
def nextWith (r : Result) (p : State → Bool) : Bool :=
  match r with
  | .next t => p t
  | _ => false

theorem exists_of_nextWith {r : Result} {p : State → Bool} (h : nextWith r p = true) :
    ∃ t, r = .next t ∧ p t = true := by
  cases r with
  | next t => exact ⟨t, rfl, h⟩
  | fault _ => cases h
  | refused _ => cases h

/-- The reset machine with an instruction's bytes at its program counter. -/
def ready (bytes : List Byte) : State := placeBytes State.reset bytes

/-- A machine without interrupts asked for, running and at a boundary, is at a fetch. -/
theorem atFetch_of (s : State) (h1 : s.bus.invalid = false) (h2 : s.cpu.stopped = false) (h3 : s.cpu.halted = false)
    (h4 : s.cpu.wait = 0) (h5 : s.cpu.ime = false) : AtFetch s :=
  ⟨h1, h2, h3, h4, fun h => by rw [h5] at h; cases h⟩

theorem witness_DecodeOfEncode : (Instr.ldSpN16 0xFFFF#16).wellFormed = true ∧ Instr.set7A.wellFormed = true := by
  decide

theorem witness_EncodeOfDecode_instruction :
    decode [0x31#8, 0xFF#8, 0xFF#8, 0x00#8] = .ok (.ldSpN16 0xFFFF#16, [0x00#8]) := rfl

theorem witness_EncodeOfDecode_prefix : decode [0xCB#8] = .ok (.prefixCb, []) := rfl

/-- The clauses of `FirstByteTellsLength` at the ends of their ranges: three bytes (0x01, 0x31, 0xC2, 0xDA, 0xC4,
0xDC), two bytes (0x18, 0x38, 0x06, 0x3E, 0xC6, 0xFE), one byte (0x10, 0x09, 0xE2, 0xE4). -/
theorem witness_FirstByteTellsLength :
    [0x01#8, 0x31#8, 0xC2#8, 0xDA#8, 0xC4#8, 0xDC#8].map opLength = List.replicate 6 3 ∧
    [0x18#8, 0x38#8, 0x06#8, 0x3E#8, 0xC6#8, 0xFE#8].map opLength = List.replicate 6 2 ∧
    [0x10#8, 0x09#8, 0xE2#8, 0xE4#8].map opLength = List.replicate 4 1 := by
  decide

theorem witness_StepRunsDecodedInstruction :
    let s := ready [0x3E#8, 0x42#8]
    AtFetch s ∧ s.cpu.haltBug = false ∧ s.cpu.eiPending = false ∧
    decode [busRead s s.cpu.pc, busRead s (s.cpu.pc + 1#16), busRead s (s.cpu.pc + 2#16)] =
      .ok (.ldAN8 0x42#8, [0x00#8]) :=
  ⟨atFetch_of _ rfl rfl rfl rfl rfl, rfl, rfl, rfl⟩

/-- A fetch with `IME = 1` and nothing enabled. -/
theorem witness_AtFetch_enabled : AtFetch { State.reset with cpu.ime := true, bus.iflag := 0x1F#5 } :=
  ⟨rfl, rfl, rfl, rfl, fun _ n h => by
    have h2 := h.2.1
    simp [State.reset, ResetRecord.spec, Bus.reset] at h2⟩

theorem witness_HaltQuirkRereadsByte :
    let s := { ready [0x3E#8, 0x14#8] with cpu.haltBug := true }
    AtFetch s ∧ s.cpu.haltBug = true ∧ s.cpu.eiPending = false ∧
    decode [busRead s s.cpu.pc, busRead s s.cpu.pc, busRead s (s.cpu.pc + 1#16)] = .ok (.ldAN8 0x3E#8, [0x14#8]) :=
  ⟨atFetch_of _ rfl rfl rfl rfl rfl, rfl, rfl, rfl⟩

/-- Each condition holds on one flag byte and fails on another (`RelativeJumps`, `AbsoluteJumps`, `CallsAndRestarts`,
`Returns`). -/
theorem witness_conditions :
    (CondHolds 0x00#8 .nz ∧ CondHolds 0x80#8 .z ∧ CondHolds 0x00#8 .nc ∧ CondHolds 0x10#8 .c) ∧
    (¬ CondHolds 0x80#8 .nz ∧ ¬ CondHolds 0x00#8 .z ∧ ¬ CondHolds 0x10#8 .nc ∧ ¬ CondHolds 0x00#8 .c) := by
  simp [CondHolds]

/-- `signed16` at the ends of its two cases. -/
theorem witness_signed16 :
    [0x00#8, 0x7F#8, 0x80#8, 0xFF#8].map signed16 = [0x0000#16, 0x007F#16, 0xFF80#16, 0xFFFF#16] := by
  decide

theorem witness_CallsAndRestarts : MemoryInv { State.reset with cpu.sp := 0x0000#16 } := { reset_memory with }

theorem witness_InterruptEnable : State.reset.cfg.eiDelay = .zero := rfl

/-- The parameters at their other values. -/
def otherConfig : Config := { Config.spec with eiDelay := .one, spAddFlags := .bit11_15, stopWake := .onButtonPress }

theorem witness_OtherParameterValues_ei : ({ State.reset with cfg := otherConfig } : State).cfg.eiDelay = .one := rfl

theorem witness_OtherParameterValues_delayed :
    let s := { ready [0x00#8] with cfg := otherConfig, cpu.eiPending := true }
    AtFetch s ∧ s.cpu.haltBug = false ∧ s.cpu.eiPending = true ∧
    decode [busRead s s.cpu.pc, busRead s (s.cpu.pc + 1#16), busRead s (s.cpu.pc + 2#16)] =
      .ok (.nop, [0x00#8, 0x00#8]) :=
  ⟨atFetch_of _ rfl rfl rfl rfl rfl, rfl, rfl, rfl⟩

theorem witness_OtherParameterValues_sp :
    ({ State.reset with cfg := otherConfig } : State).cfg.spAddFlags = .bit11_15 ∧
    (Instr.addSpE8 0x80#8 = .addSpE8 0x80#8 ∨ Instr.addSpE8 0x80#8 = .ldHlSpE8 0x80#8) :=
  ⟨rfl, .inl rfl⟩

theorem witness_OtherParameterValues_press :
    ({ State.reset with cfg := otherConfig } : State).cfg.stopWake = .onButtonPress ∧
    State.reset.bus.buttons.level .start = false :=
  ⟨rfl, rfl⟩

theorem witness_MemoryLoads_direct :
    (Instr.ldhAIndN8 0xFF#8, 0xFF00#16 + (0xFF#8).zeroExtend 16, 12, [0xF0#8, 0xFF#8]) ∈
      [(Instr.ldAIndBc, State.reset.bc, 8, [0x0A#8]), (Instr.ldAIndDe, State.reset.de, 8, [0x1A#8]),
        (Instr.ldhAIndN8 0xFF#8, 0xFF00#16 + (0xFF#8).zeroExtend 16, 12, [0xF0#8, 0xFF#8])] := by
  simp

theorem witness_MemoryLoads_stepping :
    (Instr.ldAIndHlInc, State.reset.hl + 1#16, 0x2A#8) ∈
      [(Instr.ldAIndHlInc, State.reset.hl + 1#16, 0x2A#8), (Instr.ldAIndHlDec, State.reset.hl - 1#16, 0x3A#8)] := by
  simp

theorem witness_MemoryStores :
    MemoryInv { State.reset with cpu.h := 0xC0#8 } ∧
    (Instr.ldIndHlIncA, State.reset.hl + 1#16, 0x22#8) ∈
      [(Instr.ldIndHlIncA, State.reset.hl + 1#16, 0x22#8), (Instr.ldIndHlDecA, State.reset.hl - 1#16, 0x32#8)] :=
  ⟨{ reset_memory with }, by simp⟩

theorem witness_PairLoads : MemoryInv State.reset ∧ Pair.hl ≠ .sp := ⟨reset_memory, by decide⟩

theorem witness_StackPointerPlusOffset : State.reset.cfg.spAddFlags = .lowByte := rfl

theorem witness_Pushes : MemoryInv { State.reset with cpu.sp := 0x0001#16 } := { reset_memory with }

theorem witness_Pops : StackPair.bc ≠ .af := by decide

theorem witness_IncrementsAndDecrements : MemoryInv { State.reset with cpu.h := 0xC0#8, cpu.l := 0x00#8 } :=
  { reset_memory with }

theorem witness_PairArithmetic : Pair.bc ≠ .sp := by decide

/-- `AddAndAdc`, `SubSbcAndCp` and `LogicalOperations`: the three forms of each operation. -/
theorem witness_aluForms (op : AluOp) :
    (Instr.alu op (.reg .a), State.reset.reg .a, 4, [BitVec.ofNat 8 (0x80 + 8 * aluNumber op + 7)]) ∈
      aluForms op State.reset .a 0xFF#8 ∧
    (Instr.aluImm op 0xFF#8, 0xFF#8, 8, [BitVec.ofNat 8 (0xC6 + 8 * aluNumber op), 0xFF#8]) ∈
      aluForms op State.reset .a 0xFF#8 := by
  simp [aluForms, slotNumber]

theorem witness_LogicalOperations :
    (AluOp.or, (fun a v : Bool => a || v), false) ∈
      [(AluOp.and, (fun a v : Bool => a && v), true), (AluOp.xor, (fun a v => a != v), false),
        (AluOp.or, (fun a v => a || v), false)] := by
  simp

theorem witness_AccumulatorRotates :
    (Instr.rra, RotOp.rr, 0x1F#8) ∈
      [(Instr.rlca, RotOp.rlc, 0x07#8), (Instr.rrca, RotOp.rrc, 0x0F#8), (Instr.rla, RotOp.rl, 0x17#8),
        (Instr.rra, RotOp.rr, 0x1F#8)] := by
  simp

/-- `DecimalAdjust`: N is 0 in one flag byte and 1 in another. -/
theorem witness_DecimalAdjust : (0x30#8 : Byte).getLsbD 6 = false ∧ (0x70#8 : Byte).getLsbD 6 = true := by decide

theorem witness_RotatesAndShifts : MemoryInv { State.reset with cpu.h := 0xC0#8, cpu.f := 0x10#8 } :=
  { reset_memory with }

theorem witness_BitWrites :
    MemoryInv { State.reset with cpu.h := 0xDF#8, cpu.l := 0xFF#8 } ∧
    (Instr.set, true, 0xC0) ∈ [(Instr.res, false, 0x80), (Instr.set, true, 0xC0)] :=
  ⟨{ reset_memory with }, by simp⟩

theorem witness_NopHaltStop_quirk :
    let s := { State.reset with bus.ie := 0x10#8, bus.iflag := 0x10#5 }
    s.cpu.ime = false ∧ ∃ n, Pending s n :=
  ⟨rfl, 4, by decide, rfl, rfl⟩

theorem witness_NopHaltStop_halts :
    ¬ (({ State.reset with cpu.ime := true } : State).cpu.ime = false ∧
      ∃ n, Pending { State.reset with cpu.ime := true } n) :=
  fun h => by cases h.1

theorem witness_UndefinedOpcodes :
    decode [0xFE#8, 0x00#8, 0x00#8] = .ok (.cpAN8 0x00#8, [0x00#8]) ∧
    (0xFE#8 : Byte) ∉
      [0xD3#8, 0xDB#8, 0xDD#8, 0xE3#8, 0xE4#8, 0xEB#8, 0xEC#8, 0xED#8, 0xF4#8, 0xFC#8, 0xFD#8] ∧
    ∃ t, exec (.cpAN8 0x00#8) State.reset = .next t :=
  ⟨rfl, by decide, _, rfl⟩

theorem witness_TicksWithoutExecution_stopped :
    ({ State.reset with cpu.stopped := true } : State).bus.invalid = true ∨
      ({ State.reset with cpu.stopped := true } : State).cpu.stopped = true :=
  .inr rfl

theorem witness_TicksWithoutExecution_halted :
    let s := { State.reset with cpu.halted := true, bus.iflag := 0x1F#5 }
    s.cpu.halted = true ∧ ∀ n, ¬ Pending s n :=
  ⟨rfl, fun n h => by
    have h2 := h.2.1
    simp [State.reset, ResetRecord.spec, Bus.reset] at h2⟩

theorem witness_TicksWithoutExecution_waiting :
    let s := { State.reset with cpu.halted := true, cpu.wait := 1, bus.ie := 0x01#8, bus.iflag := 0x01#5 }
    s.bus.invalid = false ∧ s.cpu.stopped = false ∧ 0 < s.cpu.wait ∧
    (s.cpu.halted = true → ∃ n, Pending s n) :=
  ⟨rfl, rfl, by decide, fun _ => ⟨0, by decide, rfl, rfl⟩⟩

/-- A machine at a boundary with `IME = 1`, all sources enabled and those of `f` pending. -/
def requested (f : BitVec 5) : State :=
  { State.reset with cpu.ime := true, cpu.halted := true, bus.ie := 0x1F#8, bus.iflag := f }

/-- `InterruptEntry` for each of the five sources, with every higher-numbered one pending too. -/
theorem witness_InterruptEntry :
    MemoryInv (requested 0x1F#5) ∧ (requested 0x1F#5).bus.invalid = false ∧ (requested 0x1F#5).cpu.wait = 0 ∧
    (requested 0x1F#5).cpu.ime = true ∧
    Pending (requested 0x1F#5) 0 ∧
    (Pending (requested 0x1E#5) 1 ∧ ∀ m < 1, ¬ Pending (requested 0x1E#5) m) ∧
    (Pending (requested 0x1C#5) 2 ∧ ∀ m < 2, ¬ Pending (requested 0x1C#5) m) ∧
    (Pending (requested 0x18#5) 3 ∧ ∀ m < 3, ¬ Pending (requested 0x18#5) m) ∧
    (Pending (requested 0x10#5) 4 ∧ ∀ m < 4, ¬ Pending (requested 0x10#5) m) ∧
    (requested 0x10#5).cfg.vector = Config.spec.vector := by
  refine ⟨{ reset_memory with }, rfl, rfl, rfl, ?_, ?_, ?_, ?_, ?_, rfl⟩ <;>
    simp only [Pending] <;> decide

theorem witness_MasterEnableWriters :
    (∃ t, exec .halt State.reset = .next t) ∧ Instr.halt ∉ [Instr.di, Instr.ei, Instr.reti] :=
  ⟨⟨_, rfl⟩, by decide⟩

/-- A bus whose timer counts in tick 16. -/
def counting : Bus := { State.reset.bus with tac := 5#3, tick := 16 }

/-- `DividerAndTimer`: the divider's two clauses, and the timer's three. -/
theorem witness_DividerAndTimer :
    510 % Config.spec.divPeriod = 0 ∧ 511 % Config.spec.divPeriod ≠ 0 ∧
    counting.tac.getLsbD 2 = true ∧ counting.tick % Config.spec.timerRate.rate1 = 0 ∧ counting.tima ≠ 0xFF#8 ∧
    ({ counting with tima := 0xFF#8 } : Bus).tima = 0xFF#8 ∧
    ({ counting with tick := 15 } : Bus).tick % Config.spec.timerRate.rate1 ≠ 0 := by
  decide

/-- A banked machine outside drawing, with its external RAM mapped. -/
def mapped : State := { banked { BankRegs.reset with ramEnable := true } with ppu.mode := .vblank }

/-- `StoresAreReadBack`: the ends of each window of plain RAM, and of the echo. -/
theorem witness_StoresAreReadBack :
    MemoryInv mapped ∧
    (PlainRam mapped 0x8000#16 ∧ PlainRam mapped 0x9FFF#16) ∧ (PlainRam mapped 0xFE00#16 ∧ PlainRam mapped 0xFE9F#16) ∧
    (PlainRam mapped 0xC000#16 ∧ PlainRam mapped 0xFDFF#16) ∧ (PlainRam mapped 0xFF80#16 ∧ PlainRam mapped 0xFFFE#16) ∧
    (PlainRam mapped 0xA000#16 ∧ PlainRam mapped 0xBFFF#16) ∧
    EchoOf 0xC000#16 0xE000#16 ∧ EchoOf 0xFDFF#16 0xDDFF#16 := by
  refine ⟨?_, ⟨?_, ?_⟩, ⟨?_, ?_⟩, ⟨?_, ?_⟩, ⟨?_, ?_⟩, ⟨?_, ?_⟩, ?_, ?_⟩
  · exact { reset_memory with
      rom := ⟨Cells.wf_nil, fun _ h => by cases h⟩, xram := ⟨Cells.wf_nil, fun _ h => by cases h⟩ }
  iterate 2 exact .inl ⟨by decide, by decide, rfl⟩
  iterate 2 exact .inr (.inl ⟨by decide, by decide, rfl⟩)
  iterate 2 exact .inr (.inr (.inl ⟨by decide, by decide⟩))
  iterate 2 exact .inr (.inr (.inr (.inl ⟨by decide, by decide⟩)))
  iterate 2 exact .inr (.inr (.inr (.inr ⟨by decide, by decide, rfl⟩)))
  · exact .inl ⟨by decide, by decide, by decide⟩
  · exact .inr ⟨by decide, by decide, by decide⟩

/-- `HiddenAndUnclaimed`: the two ends of each of its ranges. -/
theorem witness_HiddenAndUnclaimed :
    let s := { State.reset with ppu.mode := .draw }
    s.ppu.lcdc.getLsbD 7 = true ∧ s.cart.ramBanks = 0 ∧
    (∃ r, (banked BankRegs.reset).cart.ctrl = .banked r ∧ r.ramEnable = false) ∧
    [0x8000#16, 0x9FFF#16, 0xFE00#16, 0xFE9F#16, 0xA000#16, 0xBFFF#16, 0xFEA0#16, 0xFEFF#16, 0xFF01#16, 0xFF03#16,
      0xFF08#16, 0xFF0E#16, 0xFF10#16, 0xFF3F#16, 0xFF4C#16, 0xFF4F#16, 0xFF51#16, 0xFF7F#16].map (busRead s) =
      List.replicate 18 0xFF#8 := by
  refine ⟨by decide, by decide, ⟨_, rfl, rfl⟩, by decide⟩

theorem witness_JoypadAndButtons :
    State.reset.cfg.stopWake = .never ∧ State.reset.bus.buttons.level .a = false ∧
    Buttons.level { Buttons.released with a := true } .a = true ∧ Button.b ≠ .a := by
  decide

/-- `BankLatches` and `BankWindows`: both variants, external RAM mapped. -/
theorem witness_BankLatches :
    State.reset.cart.ctrl = .direct ∧ (banked BankRegs.reset).cart.ctrl = .banked BankRegs.reset ∧
    (banked BankRegs.reset).cart.ramBanks ≠ 0 ∧ { BankRegs.reset with ramEnable := true }.ramEnable = true := by
  decide

/-- The ends of the regions of `BankLatches` (R113 to R116): the latch written by each. -/
theorem witness_BankLatches_regions :
    ([0x0000, 0x1FFF].map fun a => (BankRegs.reset.latch a 0x0A#8).ramEnable) = [true, true] ∧
    ([0x2000, 0x3FFF].map fun a => (BankRegs.reset.latch a 0x1F#8).bank5) = [0x1F#5, 0x1F#5] ∧
    ([0x4000, 0x5FFF].map fun a => (BankRegs.reset.latch a 0x02#8).bank2) = [2#2, 2#2] ∧
    ([0x6000, 0x7FFF].map fun a => (BankRegs.reset.latch a 0x01#8).mode) = [true, true] := by
  decide

theorem witness_step : ∃ t, step State.reset = .next t :=
  let ⟨_, h, _⟩ := step_cases State.reset
  ⟨_, h⟩

theorem witness_CartridgeIsFixed : ∃ t, step (banked BankRegs.reset) = .next t :=
  let ⟨_, h, _⟩ := step_cases (banked BankRegs.reset)
  ⟨_, h⟩

theorem witness_DmaCopies : MemoryInv State.reset := reset_memory

/-- `ScanAdvances` at the last dot of the last line. -/
theorem witness_ScanAdvances :
    let s := { State.reset with ppu.dot := 455, ppu.ly := 153#8 }
    s.ppu.dot < 456 ∧ s.ppu.ly.toNat ≤ 153 ∧ ∃ t, step s = .next t :=
  ⟨by decide, by decide, by
    obtain ⟨_, h, _⟩ := step_cases { State.reset with ppu.dot := 455, ppu.ly := 153#8 }
    exact ⟨_, h⟩⟩

theorem witness_DotRequests :
    let p := { State.reset.ppu with ly := 144#8 }
    p.ly.toNat = 144 ∧ p.dot = 0 := by
  decide

theorem witness_SpriteSearch :
    let p := { State.reset.ppu with ly := 143#8 }
    p.ly.toNat < 144 ∧ p.dot = 0 := by
  decide

/-- `SpriteMerge`: a slot taken, a slot kept for each reason, and a slot beyond the row. -/
theorem witness_SpriteMerge :
    let free : Pixel := { color := 0#2, sp := false, prio := false, pal := false }
    let owned : Pixel := { color := 1#2, sp := true, prio := false, pal := false }
    let behind : Pixel := { color := 3#2, sp := false, prio := false, pal := false }
    [free, owned, behind, free][0]? = some free ∧ [1#2, 1#2, 1#2][0]? = some 1#2 ∧ (1#2 : BitVec 2) ≠ 0#2 ∧
    [free, owned, behind, free][1]? = some owned ∧ [free, owned, behind, free][2]? = some behind ∧
    (0x80#8 : Byte).getLsbD 7 = true ∧ behind.color ≠ 0#2 ∧ [1#2, 1#2, 1#2][3]? = none := by
  decide

theorem witness_PixelOutput :
    let x : Pixel := { color := 3#2, sp := true, prio := false, pal := true }
    let p := { State.reset.ppu with queue := [x], col := 159 }
    Cells.wf p.fb ∧ p.queue = x :: [] ∧ p.discard = 0 ∧ p.col + 1 = 160 ∧ State.reset.ppu.queue = [] ∧
    0 < { p with discard := 7 }.discard ∧ State.reset.ppu.col + 1 ≠ 160 :=
  ⟨Cells.wf_nil, rfl, rfl, rfl, rfl, by decide, by decide⟩

theorem witness_TileRowAddresses :
    State.reset.ppu.lcdc.getLsbD 4 = true ∧ { State.reset.ppu with lcdc := 0x81#8 }.lcdc.getLsbD 4 = false ∧
    { State.reset.ppu with frow := 7 }.frow ≤ 7 := by
  decide

/-- Machines in the middle of a frame: drawing at the first drawing dot, blanking from the dot 284 on, and vertical
blanking at its last dot. -/
def drawing : Ppu := { State.reset.ppu with mode := .draw, dot := 81, ph := 1 }

def blanking : Ppu := { State.reset.ppu with mode := .hblank, dot := 284, col := 160, ly := 143#8 }

def verticalBlank : Ppu := { State.reset.ppu with mode := .vblank, dot := 455, col := 160, ly := 153#8 }

theorem drawing_scan : ScanInv drawing := by
  constructor <;> decide

theorem blanking_scan : ScanInv blanking := by
  constructor <;> decide

theorem verticalBlank_scan : ScanInv verticalBlank := by
  constructor <;> decide

theorem witness_ModeSequence :
    (ScanInv drawing ∧ ModeInv drawing) ∧ (ScanInv verticalBlank ∧ ModeInv verticalBlank) ∧
    ∃ t, step { State.reset with ppu := drawing } = .next t :=
  ⟨⟨drawing_scan, by constructor <;> decide⟩, ⟨verticalBlank_scan, by constructor <;> decide⟩, by
    obtain ⟨_, h, _⟩ := step_cases { State.reset with ppu := drawing }
    exact ⟨_, h⟩⟩

theorem witness_DrawingEndsInTime_step :
    ScanInv drawing ∧ ModeInv drawing ∧ DrawInv drawing ∧ ∃ t, step { State.reset with ppu := drawing } = .next t :=
  ⟨drawing_scan, by constructor <;> decide, by constructor <;> decide, by
    obtain ⟨_, h, _⟩ := step_cases { State.reset with ppu := drawing }
    exact ⟨_, h⟩⟩

theorem witness_DrawingEndsInTime_end :
    ScanInv blanking ∧ ModeInv blanking ∧ DrawInv blanking ∧ blanking.ly.toNat < 144 ∧ 284 ≤ blanking.dot :=
  ⟨blanking_scan, by constructor <;> decide, by constructor <;> decide, by decide, by decide⟩

theorem witness_PowerUpValues : Variant.direct = .direct ∧ Variant.banked = .banked := ⟨rfl, rfl⟩

/-- A `RESET` other than the spec's, at the ends of ranges: CPU registers zeroed, interrupts on, the last visible line. -/
def otherReset : ResetRecord :=
  { ResetRecord.spec with
    cpu := { ResetRecord.spec.cpu with a := 0x00#8, f := 0xF0#8, ime := true, wait := 23 }
    ppu := { ResetRecord.spec.ppu with ly := 143#8, discard := 7, lineSprites := [39], ph := 8, col := 160 }
    bank := { BankRegs.reset with bank5 := 0x1F#5 } }

theorem witness_PowerUpMeetsInvariants :
    otherReset.Legal ∧ 2 ≤ 128 ∧
      MemoryInv (State.powerUp otherConfig otherReset .banked 128 4 [(0x1FFFFF, 0x01#8)] InitMem.blank) :=
  ⟨by constructor <;> decide, by decide, { reset_memory with
    rom := by decide, xram := ⟨Cells.wf_nil, fun _ h => by cases h⟩ }⟩

/-- A state in the middle of a frame and of a program that meets the machine's invariant: `StepKeepsInvariant`. -/
theorem witness_StepKeepsInvariant :
    let s := { banked BankRegs.reset with ppu := drawing, cpu.wait := 3 }
    s.Inv ∧ ∃ t, step s = .next t := by
  refine ⟨⟨?_, ?_, drawing_scan, ?_⟩, ?_⟩
  · constructor <;> decide
  · exact { reset_memory with
      rom := ⟨Cells.wf_nil, fun _ h => by cases h⟩, xram := ⟨Cells.wf_nil, fun _ h => by cases h⟩ }
  · exact ⟨by decide, fun r h => by cases h; decide⟩
  · obtain ⟨_, h, _⟩ := step_cases { banked BankRegs.reset with ppu := drawing, cpu.wait := 3 }
    exact ⟨_, h⟩

/-- `RunInstructionTakesItsCost` on a call, which leaves 23 ticks owed: the longest instruction. -/
theorem witness_RunInstructionTakesItsCost :
    ∃ t, step (ready [0xCD#8, 0x00#8, 0x20#8]) = .next t ∧ (ready [0xCD#8, 0x00#8, 0x20#8]).bus.invalid = false ∧
      t.bus.invalid = false ∧ t.cpu.halted = false ∧ t.cpu.stopped = false ∧ t.cpu.wait < 24 := by
  obtain ⟨t, h, hp⟩ := exists_of_nextWith
    (r := step (ready [0xCD#8, 0x00#8, 0x20#8]))
    (p := fun t => t.bus.invalid == false && t.cpu.halted == false && t.cpu.stopped == false &&
      decide (t.cpu.wait < 24)) (by decide)
  simp only [Bool.and_eq_true, beq_iff_eq, decide_eq_true_eq] at hp
  exact ⟨t, h, rfl, hp.1.1.1, hp.1.1.2, hp.1.2, hp.2⟩

/-- `RunFrameTerminates`: the invalid flag set gives the second case. -/
theorem witness_RunFrameTerminates :
    (∃ t, runFrame { State.reset with bus.invalid := true } = .failure t .invalidOpcode) ∧
    State.reset.bus.invalid = false :=
  ⟨⟨_, rfl⟩, rfl⟩

end Sys2Proof.Tests
end

section
/-! What a bus read shows of `JOYP`, `TAC`, `IF`, `LCDC` and `STAT`, and the statement about power-up. -/

namespace Sys2Proof.Machine

/-! ## Bus reads at one register's address (20_memory.md R71, R72) -/

/-- A read of `JOYP` shows the selected rows (10_state.md R42). -/
theorem busRead_joyp (s : State) : busRead s 0xFF00#16 = s.bus.joypRead := rfl

/-- The five bits that `TAC` does not store read as 1. -/
theorem busRead_tac (s : State) : busRead s 0xFF07#16 = 0x1F#5 ++ s.bus.tac := rfl

/-- The three bits that `IF` does not store read as 1. -/
theorem busRead_iflag (s : State) : busRead s 0xFF0F#16 = 7#3 ++ s.bus.iflag := rfl

theorem busRead_lcdc (s : State) : busRead s 0xFF40#16 = s.ppu.lcdc := busRead_reg (by decide) (by decide)

theorem busRead_stat (s : State) : busRead s 0xFF41#16 = s.ppu.statRead := busRead_reg (by decide) (by decide)

/-! ## A joypad with every line released (10_state.md R42, R43) -/

/-- With no button pressed every line is high, whichever rows are selected: the low nibble reads as `0xF`. -/
theorem joypRead_of_released {b : Bus} (h : b.buttons = Buttons.released) :
    b.joypRead = 3#2 ++ b.joypSel ++ 0xF#4 := by
  have hdir : b.buttons.dir = 0#4 := by rw [h]; rfl
  have hact : b.buttons.act = 0#4 := by rw [h]; rfl
  simp [Bus.joypRead, hdir, hact]

theorem level_released (x : Button) : Buttons.released.level x = false := by
  cases x <;> rfl

end Sys2Proof.Machine

namespace Sys2Proof.Proofs

open Sys2Proof Sys2Proof.Machine

/-- The controller of the variant chosen at load; only the banked one has latches (10_state.md R64). -/
theorem controller_of_variant (bank : BankRegs) (variant : Variant) :
    (variant = .direct → variant.controller bank = .direct) ∧
      (variant = .banked → variant.controller bank = .banked bank) := by
  constructor
  · rintro rfl; rfl
  · rintro rfl; rfl

/-- What the bus shows of `IF`, `JOYP`, `TAC`, `LCDC` and `STAT` at the spec's `RESET` (R460). -/
theorem powerUp_spec_reads (cfg : Config) (variant : Variant) (romBanks ramBanks : Nat) (image : Memory)
    (m : InitMem) :
    let s := State.powerUp cfg ResetRecord.spec variant romBanks ramBanks image m
    busRead s 0xFF0F#16 = 0xE0#8 ∧ busRead s 0xFF00#16 = 0xCF#8 ∧ busRead s 0xFF07#16 = 0xF8#8 ∧
      busRead s 0xFF40#16 = 0x91#8 ∧ busRead s 0xFF41#16 = 0x80#8 := by
  intro s
  have released : s.bus.buttons = Buttons.released := rfl
  have iflag : (7#3 ++ 0#5 : Byte) = 0xE0#8 := by decide
  have joyp : (3#2 ++ 0#2 ++ 0xF#4 : Byte) = 0xCF#8 := by decide
  have tac : (0x1F#5 ++ 0#3 : Byte) = 0xF8#8 := by decide
  have stat : (1#1 ++ 0#4 ++ BitVec.ofBool false ++ PpuMode.hblank.bits : Byte) = 0x80#8 := by decide
  exact ⟨(busRead_iflag s).trans iflag, (busRead_joyp s).trans ((joypRead_of_released released).trans joyp),
    (busRead_tac s).trans tac, busRead_lcdc s, (busRead_stat s).trans stat⟩

/-- Settles O55. Every register is a field that power-up copies out of `RESET`; what is not a copy is the controller,
which depends on the variant, and the bus reads of the registers that store less than a byte. -/
theorem powerUpValues : Obligations.PowerUpValues := by
  refine ⟨fun cfg r variant romBanks ramBanks image m => ?_, fun cfg variant romBanks ramBanks image m => ?_⟩
  · simp only [powerUp_cpu, powerUp_bus, powerUp_ppu, powerUp_cart, powerUp_cfg, Bus.reset, Ppu.reset, true_and,
      and_true]
    exact controller_of_variant r.bank variant
  · obtain ⟨iflag, joyp, tac, lcdc, stat⟩ := powerUp_spec_reads cfg variant romBanks ramBanks image m
    obtain ⟨-, banked⟩ := controller_of_variant BankRegs.reset variant
    exact ⟨rfl, rfl, rfl, rfl, rfl, rfl, rfl, rfl, iflag, joyp, tac, lcdc, stat, rfl, rfl, rfl, rfl, rfl, rfl, rfl,
      rfl, rfl, level_released, banked⟩

end Sys2Proof.Proofs
end

section
/-! Bus writes range by range, what the cartridge's windows show and latch, and the statements of 20_memory.md about
stored bytes, open bus, bank latches and bank windows. -/

namespace Sys2Proof.Machine

/-! ## External RAM (20_memory.md R111, R112, R119) -/

section Cartridge

variable {c : Cart} {r : BankRegs} {a off : Nat}

/-- External RAM that is absent or disabled is not mapped (R112, R119). -/
theorem Cart.xramMap_eq_none (h : c.ramBanks = 0 ∨ ∃ r, c.ctrl = .banked r ∧ r.ramEnable = false) :
    c.xramMap a = none := by
  rcases h with absent | ⟨r, hctrl, disabled⟩
  · exact if_pos absent
  · simp [Cart.xramMap, hctrl, disabled]

theorem Cart.xramMap_direct (hctrl : c.ctrl = .direct) (present : c.ramBanks ≠ 0) :
    c.xramMap a = some (a - 0xA000) := by
  simp [Cart.xramMap, hctrl, present]

theorem Cart.xramMap_banked (hctrl : c.ctrl = .banked r) (present : c.ramBanks ≠ 0) (enabled : r.ramEnable = true) :
    c.xramMap a = some (r.ramBank c.ramBanks * 0x2000 + (a - 0xA000)) := by
  simp [Cart.xramMap, hctrl, present, enabled]

/-- The mapping depends on the bank counts and latches, not on the bytes. -/
theorem Cart.xramMap_withXram (c : Cart) (m : Memory) (a : Nat) : { c with xram := m }.xramMap a = c.xramMap a := rfl

theorem Cart.mapRead_xram (ha : 0xA000 ≤ a) : c.mapRead a = (c.xramMap a).map fun off => (.xram, off) := if_pos ha

theorem Cart.write_mapped (ha : 0xA000 ≤ a) (hoff : c.xramMap a = some off) (v : Byte) :
    c.write a v = { c with xram := Cells.write c.xram off v } := by
  rw [Cart.write, if_pos ha, hoff]

theorem Cart.write_unmapped (ha : 0xA000 ≤ a) (hnone : c.xramMap a = none) (v : Byte) : c.write a v = c := by
  rw [Cart.write, if_pos ha, hnone]

/-! ## The ROM windows (R111, R113 to R118) -/

theorem Cart.mapRead_direct (hctrl : c.ctrl = .direct) (ha : a < 0xA000) : c.mapRead a = some (.rom, a) := by
  rw [Cart.mapRead, if_neg (by omega), hctrl]

theorem Cart.mapRead_fixed (hctrl : c.ctrl = .banked r) (ha : a ≤ 0x3FFF) : c.mapRead a = some (.rom, a) := by
  rw [Cart.mapRead, if_neg (by omega), hctrl]
  exact if_pos ha

theorem Cart.mapRead_switched (hctrl : c.ctrl = .banked r) (h1 : 0x3FFF < a) (h2 : a < 0xA000) :
    c.mapRead a = some (.rom, r.romBank c.romBanks * 0x4000 + (a - 0x4000)) := by
  rw [Cart.mapRead, if_neg (by omega), hctrl]
  exact if_neg (by omega)

theorem Cart.write_direct (hctrl : c.ctrl = .direct) (ha : a < 0xA000) (v : Byte) : c.write a v = c := by
  rw [Cart.write, if_neg (by omega), hctrl]

theorem Cart.write_banked (hctrl : c.ctrl = .banked r) (ha : a < 0xA000) (v : Byte) :
    c.write a v = { c with ctrl := .banked (r.latch a v) } := by
  rw [Cart.write, if_neg (by omega), hctrl]

end Cartridge

/-! ## The bank numbers and the latches, as numbers (R113 to R118) -/

/-- `{bank2, bank5}` is `bank2 * 32 + bank5`; mode 1 leaves `bank2` out (R118). -/
theorem BankRegs.romBank_eq (r : BankRegs) (romBanks : Nat) :
    r.romBank romBanks = ((if r.mode then 0 else 32 * r.bank2.toNat) + r.bank5.toNat) % romBanks := by
  cases hmode : r.mode <;> simp [BankRegs.romBank, hmode, Nat.mul_comm]

/-- The low bits of a byte equal a number exactly when the byte modulo the power of two does. -/
theorem extractLsb'_low_eq_iff (v : Byte) (k : Nat) (n : BitVec k) :
    v.extractLsb' 0 k = n ↔ v.toNat % 2 ^ k = n.toNat := by
  rw [← BitVec.toNat_inj, BitVec.extractLsb'_toNat, Nat.shiftRight_zero]

section Latches

variable {a : Nat}

theorem BankRegs.latch_ramEnable (r : BankRegs) (h : a ≤ 0x1FFF) (v : Byte) :
    r.latch a v = { r with ramEnable := decide (v.toNat % 16 = 0xA) } := by
  rw [BankRegs.latch, if_pos h]
  simp only [extractLsb'_low_eq_iff]
  rfl

theorem BankRegs.latch_bank5 (r : BankRegs) (h1 : 0x2000 ≤ a) (h2 : a ≤ 0x3FFF) (v : Byte) :
    r.latch a v = { r with bank5 := if v.toNat % 32 = 0 then 1#5 else BitVec.ofNat 5 v.toNat } := by
  rw [BankRegs.latch, if_neg (by omega), if_pos h2]
  simp only [extractLsb'_low_eq_iff]
  rfl

theorem BankRegs.latch_bank2 (r : BankRegs) (h1 : 0x4000 ≤ a) (h2 : a ≤ 0x5FFF) (v : Byte) :
    r.latch a v = { r with bank2 := BitVec.ofNat 2 v.toNat } := by
  rw [BankRegs.latch, if_neg (by omega), if_neg (by omega), if_pos h2]
  rfl

theorem BankRegs.latch_mode (r : BankRegs) (h : 0x6000 ≤ a) (v : Byte) :
    r.latch a v = { r with mode := v.getLsbD 0 } := by
  rw [BankRegs.latch, if_neg (by omega), if_neg (by omega), if_neg (by omega)]

end Latches

/-! ## Visibility (R74, R75) -/

theorem Ppu.vramVisible_draw {p : Ppu} (on : p.lcdc.getLsbD 7 = true) (mode : p.mode = .draw) :
    p.vramVisible = false := by
  simp [Ppu.vramVisible, on, mode]

theorem Ppu.oamVisible_search_or_draw {p : Ppu} (on : p.lcdc.getLsbD 7 = true)
    (mode : p.mode = .search ∨ p.mode = .draw) : p.oamVisible = false := by
  rcases mode with mode | mode <;> simp [Ppu.oamVisible, on, mode]

/-! ## Bus writes, one range at a time (R73) -/

section Ranges

variable {s : State} {a : Word}

theorem busWrite_vram (h1 : 0x8000 ≤ a.toNat) (h2 : a.toNat ≤ 0x9FFF) (v : Byte) :
    busWrite s a v = if s.ppu.vramVisible then
      { s with ppu.vram := Cells.write s.ppu.vram (a.toNat - 0x8000) v } else s :=
  if_pos ⟨h1, h2⟩

theorem busWrite_oam (h1 : 0xFE00 ≤ a.toNat) (h2 : a.toNat ≤ 0xFE9F) (v : Byte) :
    busWrite s a v = if s.ppu.oamVisible then
      { s with ppu.oam := Cells.write s.ppu.oam (a.toNat - 0xFE00) v } else s := by
  unfold busWrite; rw [if_neg (by omega), if_pos ⟨h1, h2⟩]

theorem busWrite_cart (h : a.toNat ≤ 0x7FFF ∨ (0xA000 ≤ a.toNat ∧ a.toNat ≤ 0xBFFF)) (v : Byte) :
    busWrite s a v = { s with cart := s.cart.write a.toNat v } := by
  unfold busWrite; rw [if_neg (by omega), if_neg (by omega), if_neg (by omega), if_pos h]

theorem busWrite_wram (h1 : 0xC000 ≤ a.toNat) (h2 : a.toNat ≤ 0xDFFF) (v : Byte) :
    busWrite s a v = { s with bus.wram := Cells.write s.bus.wram (a.toNat - 0xC000) v } := by
  unfold busWrite
  rw [if_neg (by omega), if_neg (by omega), if_neg (by omega), if_neg (by omega), if_pos ⟨h1, h2⟩]

theorem busWrite_echo (h1 : 0xE000 ≤ a.toNat) (h2 : a.toNat ≤ 0xFDFF) (v : Byte) :
    busWrite s a v = { s with bus.wram := Cells.write s.bus.wram (a.toNat - 0xE000) v } := by
  unfold busWrite
  rw [if_neg (by omega), if_neg (by omega), if_neg (by omega), if_neg (by omega), if_neg (by omega),
    if_pos ⟨h1, h2⟩]

theorem busWrite_hram (h1 : 0xFF80 ≤ a.toNat) (h2 : a.toNat ≤ 0xFFFE) (v : Byte) :
    busWrite s a v = { s with bus.hram := Cells.write s.bus.hram (a.toNat - 0xFF80) v } := by
  unfold busWrite
  rw [if_neg (by omega), if_neg (by omega), if_neg (by omega), if_neg (by omega), if_neg (by omega),
    if_neg (by omega), if_pos ⟨h1, h2⟩]

/-! ## Bus reads through the cartridge (R110, R120) -/

theorem busRead_cart_mapped {m : CartMem} {off : Nat} (h : a.toNat ≤ 0x7FFF ∨ (0xA000 ≤ a.toNat ∧ a.toNat ≤ 0xBFFF))
    (hmap : s.cart.mapRead a.toNat = some (m, off)) : busRead s a = Cells.read (s.cart.array m) off := by
  rw [busRead_cart h, hmap]

theorem busRead_cart_unmapped (h : a.toNat ≤ 0x7FFF ∨ (0xA000 ≤ a.toNat ∧ a.toNat ≤ 0xBFFF))
    (hmap : s.cart.mapRead a.toNat = none) : busRead s a = s.cfg.openBus := by
  rw [busRead_cart h, hmap]

theorem busRead_rom {off : Nat} (h : a.toNat ≤ 0x7FFF) (hmap : s.cart.mapRead a.toNat = some (.rom, off)) :
    busRead s a = Cells.read s.cart.rom off :=
  busRead_cart_mapped (.inl h) hmap

theorem busRead_xram {off : Nat} (h1 : 0xA000 ≤ a.toNat) (h2 : a.toNat ≤ 0xBFFF)
    (hoff : s.cart.xramMap a.toNat = some off) : busRead s a = Cells.read s.cart.xram off :=
  busRead_cart_mapped (m := .xram) (.inr ⟨h1, h2⟩) (by rw [Cart.mapRead_xram h1, hoff, Option.map_some])

end Ranges

/-! ## Addresses that no component owns (R71, R84) -/

/-- The ranges that no component owns. -/
def Unclaimed (a : Word) : Prop :=
  (0xFEA0 ≤ a.toNat ∧ a.toNat ≤ 0xFEFF) ∨ (0xFF01 ≤ a.toNat ∧ a.toNat ≤ 0xFF03) ∨
    (0xFF08 ≤ a.toNat ∧ a.toNat ≤ 0xFF0E) ∨ (0xFF10 ≤ a.toNat ∧ a.toNat ≤ 0xFF3F) ∨
    (0xFF4C ≤ a.toNat ∧ a.toNat ≤ 0xFF4F) ∨ (0xFF51 ≤ a.toNat ∧ a.toNat ≤ 0xFF7F)

/-- None of the fifteen ranges of `BusRead` holds an unclaimed address. -/
theorem busRead_unclaimed (s : State) {a : Word} (h : Unclaimed a) : busRead s a = s.cfg.openBus := by
  unfold Unclaimed at h
  unfold busRead
  iterate 15 rw [if_neg (by omega)]

theorem busWrite_unclaimed (s : State) {a : Word} (v : Byte) (h : Unclaimed a) : busWrite s a v = s := by
  unfold Unclaimed at h
  apply busWrite_elim (P := fun t => t = s)
  case dropped => rfl
  all_goals intros; omega

/-! ## Hidden memory: the read is open bus, the write is dropped (R74, R75, R112, R120) -/

section Hidden

variable {s : State} {a : Word}

theorem vram_hidden (h1 : 0x8000 ≤ a.toNat) (h2 : a.toNat ≤ 0x9FFF) (hidden : s.ppu.vramVisible = false) (v : Byte) :
    busRead s a = s.cfg.openBus ∧ busWrite s a v = s := by
  simp [busRead_vram h1 h2, busWrite_vram h1 h2, hidden]

theorem oam_hidden (h1 : 0xFE00 ≤ a.toNat) (h2 : a.toNat ≤ 0xFE9F) (hidden : s.ppu.oamVisible = false) (v : Byte) :
    busRead s a = s.cfg.openBus ∧ busWrite s a v = s := by
  simp [busRead_oam h1 h2, busWrite_oam h1 h2, hidden]

theorem xram_unmapped (h1 : 0xA000 ≤ a.toNat) (h2 : a.toNat ≤ 0xBFFF) (hnone : s.cart.xramMap a.toNat = none)
    (v : Byte) : busRead s a = s.cfg.openBus ∧ busWrite s a v = s := by
  constructor
  · exact busRead_cart_unmapped (.inr ⟨h1, h2⟩) (by rw [Cart.mapRead_xram h1, hnone, Option.map_none])
  · rw [busWrite_cart (.inr ⟨h1, h2⟩), Cart.write_unmapped h1 hnone]

end Hidden

/-! ## A byte stored in plain RAM is read back, in either view of the work RAM (R78, R79) -/

theorem busRead_echoOf (s : State) {a b : Word} (h : EchoOf a b) : busRead s b = busRead s a := by
  rcases h with ⟨h1, h2, hb⟩ | ⟨h1, h2, ha⟩
  · have cell : b.toNat - 0xE000 = a.toNat - 0xC000 := by omega
    rw [busRead_echo (by omega) (by omega), busRead_wram h1 (by omega), cell]
  · have cell : a.toNat - 0xE000 = b.toNat - 0xC000 := by omega
    rw [busRead_wram h1 (by omega), busRead_echo (by omega) (by omega), cell]

theorem Cells.read_write_same {w : Nat} {m : Cells w} {size : Nat} (hm : Cells.ok m size) (i : Nat) (v : BitVec w) :
    Cells.read (Cells.write m i v) i = v := by
  rw [Cells.read_write m hm.1, if_pos rfl]

/-- The read after the write goes through the same visibility and bank mapping as the write. -/
theorem busRead_busWrite_plainRam {s : State} {a : Word} (hm : MemoryInv s) (h : PlainRam s a) (v : Byte) :
    busRead (busWrite s a v) a = v := by
  rcases h with ⟨h1, h2, visible⟩ | ⟨h1, h2, visible⟩ | ⟨h1, h2⟩ | ⟨h1, h2⟩ | ⟨h1, h2, mapped⟩
  · rw [busWrite_vram h1 h2, if_pos visible, busRead_vram h1 h2]
    exact (if_pos visible).trans (Cells.read_write_same hm.vram _ v)
  · rw [busWrite_oam h1 h2, if_pos visible, busRead_oam h1 h2]
    exact (if_pos visible).trans (Cells.read_write_same hm.oam _ v)
  · by_cases low : a.toNat ≤ 0xDFFF
    · rw [busWrite_wram h1 low, busRead_wram h1 low]
      exact Cells.read_write_same hm.wram _ v
    · rw [busWrite_echo (by omega) h2, busRead_echo (by omega) h2]
      exact Cells.read_write_same hm.wram _ v
  · rw [busWrite_hram h1 h2, busRead_hram h1 h2]
    exact Cells.read_write_same hm.hram _ v
  · obtain ⟨off, hoff⟩ := Option.isSome_iff_exists.1 mapped
    rw [busWrite_cart (.inr ⟨h1, h2⟩), Cart.write_mapped h1 hoff]
    refine (busRead_xram h1 h2 ?_).trans (Cells.read_write_same hm.xram off v)
    exact (Cart.xramMap_withXram s.cart _ _).trans hoff

end Sys2Proof.Machine

namespace Sys2Proof.Proofs

open Sys2Proof Sys2Proof.Machine

/-- Settles O39: a write is read back at its own address, and the echo of that address always shows the same byte. -/
theorem storesAreReadBack : Obligations.StoresAreReadBack := by
  intro s a b v hm
  refine ⟨fun plain hb => ?_, busRead_echoOf s⟩
  have readBack := busRead_busWrite_plainRam hm plain v
  rcases hb with rfl | echo
  · exact readBack
  · exact (busRead_echoOf _ echo).trans readBack

/-- Settles O40, one owner at a time; the last six ranges have no owner. -/
theorem hiddenAndUnclaimed : Obligations.HiddenAndUnclaimed := by
  refine ⟨rfl, fun s a v h => ?_⟩
  rcases h with ⟨h1, h2, on, mode⟩ | ⟨h1, h2, on, mode⟩ | ⟨h1, h2, off⟩ | unclaimed
  · exact vram_hidden h1 h2 (Ppu.vramVisible_draw on mode) v
  · exact oam_hidden h1 h2 (Ppu.oamVisible_search_or_draw on mode) v
  · exact xram_unmapped h1 h2 (Cart.xramMap_eq_none off) v
  · exact ⟨busRead_unclaimed s unclaimed, busWrite_unclaimed s v unclaimed⟩

/-- Settles O44: each window's mapping, with the ROM bank number of R118 written out. -/
theorem bankWindows : Obligations.BankWindows := by
  refine fun s a => ⟨fun hctrl => ⟨fun h => ?_, fun h1 h2 present => ?_⟩,
    fun r hctrl => ⟨fun h => ?_, fun h1 h2 => ?_, fun h1 h2 present enabled => ?_⟩⟩
  · exact busRead_rom h (Cart.mapRead_direct hctrl (by omega))
  · exact busRead_xram h1 h2 (Cart.xramMap_direct hctrl present)
  · exact busRead_rom (by omega) (Cart.mapRead_fixed hctrl h)
  · rw [busRead_rom h2 (Cart.mapRead_switched hctrl h1 (by omega)), BankRegs.romBank_eq]
  · exact busRead_xram h1 h2 (Cart.xramMap_banked hctrl present enabled)

/-- Settles O43: the write reaches the cartridge alone, where the direct variant drops it and the banked one latches
the register of the region. -/
theorem bankLatches : Obligations.BankLatches := by
  intro s a v ha
  rw [busWrite_cart (.inl ha)]
  refine ⟨fun hctrl => ?_, fun r hctrl => ?_⟩
  · rw [Cart.write_direct hctrl (by omega)]
  · rw [Cart.write_banked hctrl (by omega)]
    refine ⟨fun h => ?_, fun h1 h2 => ?_, fun h1 h2 => ?_, fun h => ?_⟩
    · rw [BankRegs.latch_ramEnable r h]
    · rw [BankRegs.latch_bank5 r h1 h2]
    · rw [BankRegs.latch_bank2 r h1 h2]
    · rw [BankRegs.latch_mode r h]

end Sys2Proof.Proofs
end

section
/-! The instruction that the opcode map selects is encoded by the bytes it was read from, as many as its first byte tells
(30_encoding.md R149 to R154); from it the statement about lengths. -/

namespace Sys2Proof.Machine

/-! ## The fields of a first byte (R141, R142) -/

theorem fieldX_lt (op : Byte) : fieldX op < 4 := by
  have : op.toNat < 256 := op.isLt
  unfold fieldX
  omega

theorem toNat_bits_eq_fieldX (op : Byte) : (op.extractLsb' 6 2).toNat = fieldX op := by
  revert op
  decide

theorem toNat_bits_eq_fieldY (op : Byte) : (op.extractLsb' 3 3).toNat = fieldY op := by
  revert op
  decide

theorem toNat_bits_eq_fieldZ (op : Byte) : (op.extractLsb' 0 3).toNat = fieldZ op := by
  revert op
  decide

theorem getLsbD_eq_false_iff_fieldQ (op : Byte) : op.getLsbD 3 = false ↔ fieldQ op = 0 := by
  revert op
  decide

/-- The byte with the fields `x`, `y`, `z` (R141). -/
def ofFields (x y z : Nat) : Byte := BitVec.ofNat 8 (64 * x + 8 * y + z)

/-- A byte is one of the 64 of its quadrant `x`: the case split over the rows of the opcode map. -/
theorem exists_ofFields {op : Byte} {x : Nat} (hx : fieldX op = x) : ∃ y < 8, ∃ z < 8, op = ofFields x y z := by
  have hop : op.toNat < 256 := op.isLt
  refine ⟨fieldY op, by unfold fieldY; omega, fieldZ op, by unfold fieldZ; omega, BitVec.eq_of_toNat_eq ?_⟩
  simp only [ofFields, BitVec.toNat_ofNat, ← hx, fieldX, fieldY, fieldZ]
  omega

/-! ## Each row encodes to its own bytes (R149 to R153) -/

theorem encode_decodeExt (op2 : Byte) : encode (decodeExt op2) = [0xCB#8, op2] := by
  revert op2
  decide

section Rows

variable {op : Byte}

theorem encode_decodeX0 (hx : fieldX op = 0) (nn : Word) :
    encode (decodeX0 op (loByte nn) nn) = [op, loByte nn, hiByte nn].take (opLength op) := by
  obtain ⟨y, hy, z, hz, rfl⟩ := exists_ofFields hx
  interval_cases z <;> interval_cases y <;> rfl

/-- Loads between slots and ALU operations on a slot have no operand bytes (R150, R151). -/
theorem opLength_slots (hx : fieldX op = 1 ∨ fieldX op = 2) : opLength op = 1 := by
  revert op
  decide

theorem encode_ld (hx : fieldX op = 1) : encode (.ld (.ofField (fieldY op)) (.ofField (fieldZ op))) = [op] := by
  revert op
  decide

theorem encode_alu (hx : fieldX op = 2) : encode (.alu (.ofField (fieldY op)) (.ofField (fieldZ op))) = [op] := by
  revert op
  decide

/-- Every row but that of `0xCB` is read off; `0xCB` takes its row from the extended table. -/
theorem encode_decodeX3 (hx : fieldX op = 3) (nn : Word) :
    encode (decodeX3 op (loByte nn) nn) = [op, loByte nn, hiByte nn].take (opLength op) := by
  obtain ⟨y, hy, z, hz, rfl⟩ := exists_ofFields hx
  interval_cases z <;> interval_cases y
  any_goals rfl
  exact encode_decodeExt (loByte nn)

end Rows

/-- The selected instruction is encoded by as many of the bytes read as its first byte tells. -/
theorem encode_decodeWindow (op b1 b2 : Byte) :
    encode (decodeWindow op b1 b2) = [op, b1, b2].take (opLength op) := by
  unfold decodeWindow
  split
  next hx => simpa only [loByte_mkWord, hiByte_mkWord] using encode_decodeX0 hx (mkWord b2 b1)
  next hx => rw [encode_ld hx, opLength_slots (.inl hx), List.take_succ_cons, List.take_zero]
  next hx => rw [encode_alu hx, opLength_slots (.inr hx), List.take_succ_cons, List.take_zero]
  next not0 not1 not2 =>
    have hx : fieldX op = 3 := by
      have lt := fieldX_lt op
      have ne : fieldX op ≠ 0 ∧ fieldX op ≠ 1 ∧ fieldX op ≠ 2 := ⟨not0, not1, not2⟩
      omega
    simpa only [loByte_mkWord, hiByte_mkWord] using encode_decodeX3 hx (mkWord b2 b1)

/-! ## The length, told from the first byte alone (R154) -/

theorem opLength_le_three (op : Byte) : opLength op ≤ 3 := by
  rcases opLength_cases op with h | h | h <;> simp [h]

theorem length_encode_decodeWindow (op b1 b2 : Byte) : (encode (decodeWindow op b1 b2)).length = opLength op := by
  rw [encode_decodeWindow, List.length_take]
  exact Nat.min_eq_left (opLength_le_three op)

/-- What is decoded at a first byte of length `n`, when two more bytes are there: an instruction of `n` bytes. -/
theorem decode_of_opLength_eq {op : Byte} {n : Nat} (hn : opLength op = n) (b1 b2 : Byte) (rest : List Byte) :
    decode (op :: b1 :: b2 :: rest) = .ok (decodeWindow op b1 b2, (b1 :: b2 :: rest).drop (n - 1)) ∧
      (encode (decodeWindow op b1 b2)).length = n := by
  subst hn
  have enough : opLength op ≤ (b1 :: b2 :: rest).length + 1 := by
    have := opLength_le_three op
    simp only [List.length_cons]
    omega
  exact ⟨decode_of_length op _ enough, length_encode_decodeWindow op b1 b2⟩

/-- The first bytes of a three-byte instruction, as R154 lists them. -/
def ThreeByteOpcode (op : Byte) : Prop :=
  (fieldX op = 0 ∧ fieldZ op = 1 ∧ fieldQ op = 0) ∨ op = 0x08#8 ∨ op = 0xC3#8 ∨
    (fieldX op = 3 ∧ fieldZ op = 2 ∧ fieldY op < 4) ∨ op = 0xCD#8 ∨
    (fieldX op = 3 ∧ fieldZ op = 4 ∧ fieldY op < 4) ∨ op = 0xEA#8 ∨ op = 0xFA#8

/-- The first bytes of a two-byte instruction, as R154 lists them. -/
def TwoByteOpcode (op : Byte) : Prop :=
  (fieldX op = 0 ∧ fieldZ op = 0 ∧ 3 ≤ fieldY op) ∨ (fieldX op = 0 ∧ fieldZ op = 6) ∨
    (fieldX op = 3 ∧ fieldZ op = 6) ∨ op = 0xE0#8 ∨ op = 0xF0#8 ∨ op = 0xE8#8 ∨ op = 0xF8#8 ∨ op = 0xCB#8

theorem TwoByteOpcode.not_three {op : Byte} : TwoByteOpcode op → ¬ ThreeByteOpcode op := by
  unfold TwoByteOpcode ThreeByteOpcode
  revert op
  decide

section Lengths

variable {op : Byte}

theorem opLength_of_three (h : ThreeByteOpcode op) : opLength op = 3 := if_pos h

theorem opLength_of_two (h : TwoByteOpcode op) : opLength op = 2 := (if_neg h.not_three).trans (if_pos h)

theorem opLength_of_neither (h3 : ¬ ThreeByteOpcode op) (h2 : ¬ TwoByteOpcode op) : opLength op = 1 :=
  (if_neg h3).trans (if_neg h2)

end Lengths

end Sys2Proof.Machine

namespace Sys2Proof.Proofs

open Sys2Proof Sys2Proof.Machine

/-- Settles O4: the instruction is the one that the opcode map selects, and each case of R154 gives its length. -/
theorem firstByteTellsLength : Obligations.FirstByteTellsLength := by
  intro op b1 b2 rest
  simp only [toNat_bits_eq_fieldX, toNat_bits_eq_fieldY, toNat_bits_eq_fieldZ, getLsbD_eq_false_iff_fieldQ]
  exact ⟨decodeWindow op b1 b2, fun three => decode_of_opLength_eq (opLength_of_three three) b1 b2 rest,
    fun two => decode_of_opLength_eq (opLength_of_two two) b1 b2 rest,
    fun h3 h2 => decode_of_opLength_eq (opLength_of_neither h3 h2) b1 b2 rest⟩

end Sys2Proof.Proofs
end

section
/-! Control flow: what a jump, a push and a pop leave unchanged, how each way of transferring control ends, and the
statements of 40_control_flow.md. -/

namespace Sys2Proof.Machine

/-! ## Frames (10_state.md R20 to R34) -/

section Frames

variable {s t : State}

/-- `SP`, `PC`, `IME` and the ticks owed are outside the registers, the flags and the power state. -/
theorem kept_of_cpu_eq {sp pc : Word} {ime : Bool} {wait : Nat}
    (h : t.cpu = { s.cpu with sp := sp, pc := pc, ime := ime, wait := wait }) :
    KeptRegs s t [] ∧ t.cpu.f = s.cpu.f ∧ KeptPower s t := by
  refine ⟨fun r _ => ?_, ?_, ?_⟩
  · cases r <;> simp [State.reg, h]
  · rw [h]
  · simp [KeptPower, h]

theorem jumpFrame_of_cpu_eq {sp pc : Word} {wait : Nat}
    (h : t.cpu = { s.cpu with sp := sp, pc := pc, wait := wait }) : JumpFrame s t := by
  obtain ⟨regs, flags, power⟩ := kept_of_cpu_eq (ime := s.cpu.ime) h
  exact ⟨regs, flags, by rw [h], power⟩

theorem keptOutside_of_eq (hb : t.bus = s.bus) (hp : t.ppu = s.ppu) (hc : t.cart = s.cart) (hg : t.cfg = s.cfg) :
    KeptOutside s t :=
  ⟨hb, hp, hc, hg, busRead_congr hb hp hc hg⟩

end Frames

/-! ## Two stores and a push (20_memory.md R73, 40_control_flow.md R194) -/

theorem storedTwo_busWrite {s : State} (hm : MemoryInv s) (a1 : Word) (v1 : Byte) (a2 : Word) (v2 : Byte) :
    StoredTwo s (busWrite (busWrite s a1 v1) a2 v2) a1 v1 a2 v2 := by
  have hm1 : MemoryInv (busWrite s a1 v1) := (busWrite_keeps s a1 v1).memory hm
  refine ⟨rfl, rfl, rfl, by simp, fun b h1 h2 => ?_⟩
  calc busRead (busWrite (busWrite s a1 v1) a2 v2) b
      = busRead (busWrite s a1 v1) b := busRead_busWrite_of_not _ a2 b v2 hm1 h2
    _ = busRead s b := busRead_busWrite_of_not s a1 b v1 hm h1

/-- What two stores do is seen outside the CPU only. -/
theorem StoredTwo.withCpu {s t : State} {a1 a2 : Word} {v1 v2 : Byte} (h : StoredTwo s t a1 v1 a2 v2) (c : Cpu) :
    StoredTwo s { t with cpu := c } a1 v1 a2 v2 := h

theorem pushed_push16 {s : State} (hm : MemoryInv s) (v : Word) : Pushed s (push16 s v) v := by
  refine ⟨by rw [push16_cpu], ?_⟩
  rw [push16_eq]
  exact (storedTwo_busWrite hm _ _ _ _).withCpu _

/-! ## The parts of the control-flow instructions -/

theorem sext16_eq_signed16 (e : Byte) : sext16 e = signed16 e := sext16_eq e

theorem evalCond_iff (s : State) (cc : Cond) : evalCond s cc = true ↔ CondHolds s.cpu.f cc := by
  cases cc <;> simp [evalCond, CondHolds]

@[simp] theorem callTo_cpu (nn : Word) (s : State) :
    (callTo nn s).cpu = { s.cpu with sp := s.cpu.sp - 2#16, pc := nn } := by
  simp [callTo]

/-! ## The ends of the control-flow instructions (R181 to R191) -/

/-- The ticks left owed at the end of an instruction are those of its cost (60_exceptions.md R401). -/
theorem costs_setWait (s : State) {cost : Nat} (hcost : 0 < cost) : Costs (s.setWait (cost - 1)) cost :=
  Nat.sub_add_cancel hcost

section Ends

variable (s : State) {cost : Nat} (hcost : 0 < cost)

include hcost

/-- A jump not taken. -/
theorem finish_fallThrough : ∃ t, finish cost s = .next t ∧ t.cpu.pc = s.cpu.pc ∧ t.cpu.sp = s.cpu.sp ∧
    JumpFrame s t ∧ KeptOutside s t ∧ Costs t cost :=
  ⟨_, rfl, rfl, rfl, jumpFrame_of_cpu_eq rfl, keptOutside_of_eq rfl rfl rfl rfl, costs_setWait s hcost⟩

/-- A jump. -/
theorem finish_setPc (nn : Word) : ∃ t, finish cost (s.setPc nn) = .next t ∧ t.cpu.pc = nn ∧
    t.cpu.sp = s.cpu.sp ∧ JumpFrame s t ∧ KeptOutside s t ∧ Costs t cost :=
  ⟨_, rfl, rfl, rfl, jumpFrame_of_cpu_eq rfl, keptOutside_of_eq rfl rfl rfl rfl, costs_setWait _ hcost⟩

/-- A return. -/
theorem finish_returnTo : ∃ t, finish cost (returnTo s) = .next t ∧
    t.cpu.pc = busRead s (s.cpu.sp + 1#16) ++ busRead s s.cpu.sp ∧ t.cpu.sp = s.cpu.sp + 2#16 ∧
    JumpFrame s t ∧ KeptOutside s t ∧ Costs t cost :=
  ⟨_, rfl, rfl, rfl, jumpFrame_of_cpu_eq rfl, keptOutside_of_eq rfl rfl rfl rfl, costs_setWait _ hcost⟩

/-- The master enable written, and nothing else. -/
theorem finish_setIme (v : Bool) : ∃ t, finish cost (s.setIme v) = .next t ∧ t.cpu.ime = v ∧ KeptPower s t ∧
    KeptRegs s t [] ∧ t.cpu.f = s.cpu.f ∧ t.cpu.sp = s.cpu.sp ∧ t.cpu.pc = s.cpu.pc ∧ KeptOutside s t ∧
    Costs t cost := by
  obtain ⟨regs, flags, power⟩ := kept_of_cpu_eq (s := s) (t := (s.setIme v).setWait (cost - 1)) rfl
  exact ⟨_, rfl, rfl, power, regs, flags, rfl, rfl, keptOutside_of_eq rfl rfl rfl rfl, costs_setWait _ hcost⟩

/-- A call. -/
theorem finish_callTo (hm : MemoryInv s) (nn : Word) : ∃ t, finish cost (callTo nn s) = .next t ∧
    Pushed s t s.cpu.pc ∧ t.cpu.pc = nn ∧ JumpFrame s t ∧ Costs t cost := by
  have cpu : ((callTo nn s).setWait (cost - 1)).cpu =
      { s.cpu with sp := s.cpu.sp - 2#16, pc := nn, wait := cost - 1 } := by simp
  obtain ⟨sp, stored⟩ := pushed_push16 hm s.cpu.pc
  exact ⟨_, rfl, ⟨sp, stored.withCpu _⟩, by rw [cpu], jumpFrame_of_cpu_eq cpu, costs_setWait _ hcost⟩

end Ends

/-! ## Conditional instructions, taken and not taken (R182, R184, R187, R189) -/

section Conditional

variable {s : State} {cc : Cond}

theorem exec_jrCond_taken (h : CondHolds s.cpu.f cc) (e : Byte) :
    exec (Instr.jrCond cc e) s = finish 12 (s.setPc (s.cpu.pc + signed16 e)) := by
  rw [exec_jrCond, opJrCond, if_pos ((evalCond_iff s cc).2 h), sext16_eq_signed16]

theorem exec_jrCond_untaken (h : ¬ CondHolds s.cpu.f cc) (e : Byte) : exec (Instr.jrCond cc e) s = finish 8 s := by
  rw [exec_jrCond, opJrCond, if_neg (mt (evalCond_iff s cc).1 h)]

theorem exec_jpCond_taken (h : CondHolds s.cpu.f cc) (nn : Word) :
    exec (Instr.jpCond cc nn) s = finish 16 (s.setPc nn) := by
  rw [exec_jpCond, opJpCond, if_pos ((evalCond_iff s cc).2 h)]

theorem exec_jpCond_untaken (h : ¬ CondHolds s.cpu.f cc) (nn : Word) :
    exec (Instr.jpCond cc nn) s = finish 12 s := by
  rw [exec_jpCond, opJpCond, if_neg (mt (evalCond_iff s cc).1 h)]

theorem exec_callCond_taken (h : CondHolds s.cpu.f cc) (nn : Word) :
    exec (Instr.callCond cc nn) s = finish 24 (callTo nn s) := by
  rw [exec_callCond, opCallCond, if_pos ((evalCond_iff s cc).2 h)]

theorem exec_callCond_untaken (h : ¬ CondHolds s.cpu.f cc) (nn : Word) :
    exec (Instr.callCond cc nn) s = finish 12 s := by
  rw [exec_callCond, opCallCond, if_neg (mt (evalCond_iff s cc).1 h)]

theorem exec_retCond_taken (h : CondHolds s.cpu.f cc) : exec (Instr.retCond cc) s = finish 20 (returnTo s) := by
  rw [exec_retCond, opRetCond, if_pos ((evalCond_iff s cc).2 h)]

theorem exec_retCond_untaken (h : ¬ CondHolds s.cpu.f cc) : exec (Instr.retCond cc) s = finish 8 s := by
  rw [exec_retCond, opRetCond, if_neg (mt (evalCond_iff s cc).1 h)]

end Conditional

/-! ## Unconditional instructions -/

theorem exec_jrE8 (e : Byte) (s : State) :
    exec (.jrE8 e) s = finish 12 (s.setPc (s.cpu.pc + signed16 e)) := by
  rw [← sext16_eq_signed16]
  rfl

/-- The target of `RST` is eight times its field (R191). -/
theorem exec_rst (y : Fin 8) (s : State) :
    exec (Instr.rst y.val) s = finish 16 (callTo (BitVec.ofNat 16 (y.val * 8)) s) := by
  fin_cases y <;> rfl

theorem exec_ei_zero {s : State} (h : s.cfg.eiDelay = .zero) : exec .ei s = finish 4 (s.setIme true) := by
  show opEi s = _
  rw [opEi, h]

/-! ## Encodings with a condition or a restart field (30_encoding.md R149, R152) -/

theorem encode_jrCond (cc : Cond) (e : Byte) :
    encode (Instr.jrCond cc e) = [BitVec.ofNat 8 (0x20 + 8 * condNumber cc), e] := by
  cases cc <;> rfl

theorem encode_jpCond (cc : Cond) (nn : Word) : encode (Instr.jpCond cc nn) =
    [BitVec.ofNat 8 (0xC2 + 8 * condNumber cc), nn.extractLsb' 0 8, nn.extractLsb' 8 8] := by
  cases cc <;> rfl

theorem encode_callCond (cc : Cond) (nn : Word) : encode (Instr.callCond cc nn) =
    [BitVec.ofNat 8 (0xC4 + 8 * condNumber cc), nn.extractLsb' 0 8, nn.extractLsb' 8 8] := by
  cases cc <;> rfl

theorem encode_retCond (cc : Cond) : encode (Instr.retCond cc) = [BitVec.ofNat 8 (0xC0 + 8 * condNumber cc)] := by
  cases cc <;> rfl

theorem encode_rst (y : Fin 8) : encode (Instr.rst y.val) = [BitVec.ofNat 8 (0xC7 + 8 * y.val)] := by
  fin_cases y <;> rfl

end Sys2Proof.Machine

namespace Sys2Proof.Proofs

open Sys2Proof Sys2Proof.Machine

/-- Settles O9: every form taken ends in a call to its target, and `CALL cc` not taken falls through. -/
theorem callsAndRestarts : Obligations.CallsAndRestarts := by
  refine fun s hm => ⟨fun nn => ?_, fun cc nn => ?_, fun y => ?_⟩
  · obtain ⟨t, ht, pushed, pc, frame, costs⟩ := finish_callTo s (cost := 24) (by decide) hm nn
    exact ⟨t, ht, pushed, pc, frame, costs, rfl⟩
  · by_cases h : CondHolds s.cpu.f cc
    · obtain ⟨t, ht, pushed, pc, frame, costs⟩ := finish_callTo s (cost := 24) (by decide) hm nn
      exact ⟨t, (exec_callCond_taken h nn).trans ht, frame, fun _ => ⟨pushed, pc, costs⟩, fun hn => absurd h hn,
        encode_callCond cc nn⟩
    · obtain ⟨t, ht, pc, sp, frame, outside, costs⟩ := finish_fallThrough s (cost := 12) (by decide)
      exact ⟨t, (exec_callCond_untaken h nn).trans ht, frame, fun hc => absurd hc h,
        fun _ => ⟨sp, pc, outside, costs⟩, encode_callCond cc nn⟩
  · obtain ⟨t, ht, pushed, pc, frame, costs⟩ := finish_callTo s (cost := 16) (by decide) hm
      (BitVec.ofNat 16 (y.val * 8))
    exact ⟨t, (exec_rst y s).trans ht, pushed, pc, frame, costs, encode_rst y⟩

/-- Settles O7: a jump by the signed operand, or a fall-through. -/
theorem relativeJumps : Obligations.RelativeJumps := by
  refine ⟨fun s e => ?_, fun s cc e => ?_⟩
  · obtain ⟨t, ht, pc, sp, frame, outside, costs⟩ :=
      finish_setPc s (cost := 12) (by decide) (s.cpu.pc + signed16 e)
    exact ⟨t, (exec_jrE8 e s).trans ht, pc, sp, frame, outside, costs, rfl⟩
  · by_cases h : CondHolds s.cpu.f cc
    · obtain ⟨t, ht, pc, sp, frame, outside, costs⟩ :=
        finish_setPc s (cost := 12) (by decide) (s.cpu.pc + signed16 e)
      exact ⟨t, (exec_jrCond_taken h e).trans ht, fun _ => ⟨pc, costs⟩, fun hn => absurd h hn, sp, frame, outside,
        encode_jrCond cc e⟩
    · obtain ⟨t, ht, pc, sp, frame, outside, costs⟩ := finish_fallThrough s (cost := 8) (by decide)
      exact ⟨t, (exec_jrCond_untaken h e).trans ht, fun hc => absurd hc h, fun _ => ⟨pc, costs⟩, sp, frame, outside,
        encode_jrCond cc e⟩

/-- Settles O8: a jump to the operand or to `HL`, or a fall-through. -/
theorem absoluteJumps : Obligations.AbsoluteJumps := by
  refine ⟨fun s nn => ?_, fun s cc nn => ?_, fun s => ?_⟩
  · obtain ⟨t, ht, pc, sp, frame, outside, costs⟩ := finish_setPc s (cost := 16) (by decide) nn
    exact ⟨t, ht, pc, sp, frame, outside, costs, rfl⟩
  · by_cases h : CondHolds s.cpu.f cc
    · obtain ⟨t, ht, pc, sp, frame, outside, costs⟩ := finish_setPc s (cost := 16) (by decide) nn
      exact ⟨t, (exec_jpCond_taken h nn).trans ht, fun _ => ⟨pc, costs⟩, fun hn => absurd h hn, sp, frame, outside,
        encode_jpCond cc nn⟩
    · obtain ⟨t, ht, pc, sp, frame, outside, costs⟩ := finish_fallThrough s (cost := 12) (by decide)
      exact ⟨t, (exec_jpCond_untaken h nn).trans ht, fun hc => absurd hc h, fun _ => ⟨pc, costs⟩, sp, frame, outside,
        encode_jpCond cc nn⟩
  · obtain ⟨t, ht, pc, sp, frame, outside, costs⟩ := finish_setPc s (cost := 4) (by decide) s.hl
    exact ⟨t, ht, pc, sp, frame, outside, costs, rfl⟩

/-- Settles O10: `RET` and `RET cc` taken end in a return, and `RETI` sets `IME` besides. -/
theorem returns : Obligations.Returns := by
  refine fun s => ⟨?_, fun cc => ?_, ?_⟩
  · obtain ⟨t, ht, pc, sp, frame, outside, costs⟩ := finish_returnTo s (cost := 16) (by decide)
    exact ⟨t, ht, pc, sp, frame, outside, costs, rfl⟩
  · by_cases h : CondHolds s.cpu.f cc
    · obtain ⟨t, ht, pc, sp, frame, outside, costs⟩ := finish_returnTo s (cost := 20) (by decide)
      exact ⟨t, (exec_retCond_taken h).trans ht, frame, outside, fun _ => ⟨pc, sp, costs⟩, fun hn => absurd h hn,
        encode_retCond cc⟩
    · obtain ⟨t, ht, pc, sp, frame, outside, costs⟩ := finish_fallThrough s (cost := 8) (by decide)
      exact ⟨t, (exec_retCond_untaken h).trans ht, frame, outside, fun hc => absurd hc h, fun _ => ⟨pc, sp, costs⟩,
        encode_retCond cc⟩
  · obtain ⟨regs, flags, power⟩ :=
      kept_of_cpu_eq (s := s) (t := (returnFromInterrupt s).setWait 15) rfl
    exact ⟨_, rfl, rfl, rfl, rfl, regs, flags, power, keptOutside_of_eq rfl rfl rfl rfl, rfl, rfl⟩

/-- Settles O11: both end in a write of `IME` alone. -/
theorem interruptEnable : Obligations.InterruptEnable := by
  refine ⟨fun s => ?_, fun s noDelay => ?_⟩
  · obtain ⟨t, ht, ime, power, regs, flags, sp, pc, outside, costs⟩ :=
      finish_setIme s (cost := 4) (by decide) false
    exact ⟨t, ht, ime, power, regs, flags, sp, pc, outside, costs, rfl⟩
  · obtain ⟨t, ht, ime, power, regs, flags, sp, pc, outside, costs⟩ :=
      finish_setIme s (cost := 4) (by decide) true
    exact ⟨t, (exec_ei_zero noDelay).trans ht, ime, power, regs, flags, sp, pc, outside, costs, rfl⟩

end Sys2Proof.Proofs
end

section
/-! 8-bit loads and stores: what an instruction does that ends in one register written, or in one byte stored, with `HL`
stepped or not; and the statements of 41_load8.md. -/

namespace Sys2Proof.Machine

/-! ## Frames when `HL` is stepped (10_state.md R21) -/

section Step

variable {s t : State}

/-- A write of `HL` adds its two halves to the registers that may differ. -/
theorem CpuFrame.setHl {regs : List Reg} (h : CpuFrame s t regs) (w : Word) :
    CpuFrame s (t.setHl w) (regs ++ [.h, .l]) := by
  obtain ⟨kept, sp, pc, control⟩ := h
  refine ⟨fun r hr => ?_, sp, pc, control⟩
  obtain ⟨other, notH, notL⟩ : r ∉ regs ∧ r ≠ .h ∧ r ≠ .l := by simpa using hr
  rw [State.setHl_reg, if_neg notH, if_neg notL]
  exact kept r other

/-- `HL` is inside the CPU. -/
theorem KeptOutside.setHl (h : KeptOutside s t) (w : Word) : KeptOutside s (t.setHl w) := h

end Step

/-! ## One store (20_memory.md R73) -/

theorem storedByte_busWrite {s : State} (hm : MemoryInv s) (a : Word) (v : Byte) :
    StoredByte s (busWrite s a v) a v :=
  ⟨rfl, rfl, rfl, busWrite_cfg s a v, fun b h => busRead_busWrite_of_not s a b v hm h,
    fun plain => busRead_busWrite_plainRam hm plain v⟩

/-- What a store does is seen outside the CPU only. -/
theorem StoredByte.withCpu {s t : State} {a : Word} {v : Byte} (h : StoredByte s t a v) (c : Cpu) :
    StoredByte s { t with cpu := c } a v := h

/-! ## Instructions by the way they end (R210 to R228) -/

section Ends

variable {i : Instr} {s : State} {cost : Nat} {bytes : List Byte}

/-- An instruction that ends in one register written is a load of it. -/
theorem loads_of_exec_eq {r : Reg} {v : Byte} (hexec : exec i s = finish cost (s.setReg r v)) (hcost : 0 < cost)
    (hbytes : encode i = bytes) :
    ∃ t, exec i s = .next t ∧ t.reg r = v ∧ t.cpu.f = s.cpu.f ∧ CpuFrame s t [r] ∧ KeptOutside s t ∧
      Costs t cost ∧ encode i = bytes := by
  obtain ⟨frame, outside, flags⟩ := frame_reg s r v (cost - 1)
  exact ⟨_, hexec, by simp, flags, frame, outside, costs_setWait _ hcost, hbytes⟩

/-- An instruction that ends in `A` written, then `HL`, is a stepping load. -/
theorem loadsStepping_of_exec_eq {v : Byte} {w : Word} (hexec : exec i s = finish cost ((s.setReg .a v).setHl w))
    (hcost : 0 < cost) (hbytes : encode i = bytes) :
    ∃ t, exec i s = .next t ∧ t.cpu.a = v ∧ t.hl = w ∧ t.cpu.f = s.cpu.f ∧ CpuFrame s t [.a, .h, .l] ∧
      KeptOutside s t ∧ Costs t cost ∧ encode i = bytes := by
  obtain ⟨frame, outside, flags⟩ := frame_reg s .a v (cost - 1)
  exact ⟨_, hexec, rfl, by simp, flags, frame.setHl w, outside.setHl w, costs_setWait _ hcost, hbytes⟩

/-- An instruction that ends in a bus write is a store of that byte. -/
theorem stores_of_exec_eq {a : Word} {v : Byte} (hm : MemoryInv s) (hexec : exec i s = finish cost (busWrite s a v))
    (hcost : 0 < cost) (hbytes : encode i = bytes) :
    ∃ t, exec i s = .next t ∧ StoredByte s t a v ∧ t.cpu.f = s.cpu.f ∧ CpuFrame s t [] ∧ Costs t cost ∧
      encode i = bytes := by
  obtain ⟨frame, flags⟩ := frame_store s a v (cost - 1)
  exact ⟨_, hexec, (storedByte_busWrite hm a v).withCpu _, flags, frame, costs_setWait _ hcost, hbytes⟩

/-- An instruction that ends in a bus write, then `HL` written, is a stepping store. -/
theorem storesStepping_of_exec_eq {a w : Word} {v : Byte} (hm : MemoryInv s)
    (hexec : exec i s = finish cost ((busWrite s a v).setHl w)) (hcost : 0 < cost) (hbytes : encode i = bytes) :
    ∃ t, exec i s = .next t ∧ StoredByte s t a v ∧ t.hl = w ∧ t.cpu.f = s.cpu.f ∧ CpuFrame s t [.h, .l] ∧
      Costs t cost ∧ encode i = bytes := by
  obtain ⟨frame, flags⟩ := frame_store s a v (cost - 1)
  exact ⟨_, hexec, (storedByte_busWrite hm a v).withCpu _, by simp, flags, frame.setHl w, costs_setWait _ hcost,
    hbytes⟩

end Ends

/-! ## Addresses (30_encoding.md R148) -/

theorem highPage_eq (n : Byte) : highPage n = 0xFF00#16 + n.zeroExtend 16 := by
  revert n
  decide

/-- A step down is a step by the offset -1 (R218, R222). -/
theorem add_neg_one_eq_sub_one (w : Word) : w + -1#16 = w - 1#16 := (BitVec.sub_eq_add_neg w 1#16).symm

/-! ## Encodings by the numbers of the slots (30_encoding.md R149, R150) -/

/-- The pair `(HL),(HL)` has the byte of `HALT`, as it has its constructor. -/
theorem encode_ld_slotNumber (dst x : Slot) :
    encode (Instr.ld dst x) = [BitVec.ofNat 8 (0x40 + 8 * slotNumber dst + slotNumber x)] := by
  rcases dst with dst | _ <;> rcases x with x | _
  · cases dst <;> cases x <;> rfl
  · cases dst <;> rfl
  · cases x <;> rfl
  · rfl

theorem encode_ldImm_slotNumber (dst : Slot) (n : Byte) :
    encode (Instr.ldImm dst n) = [BitVec.ofNat 8 (0x06 + 8 * slotNumber dst), n] := by
  rcases dst with dst | _
  · cases dst <;> rfl
  · rfl

/-- `LD r,(HL)`, with the number 6 of its source added to the row. -/
theorem encode_ld_reg_hlInd (rd : Reg) :
    encode (Instr.ld (.reg rd) .hlInd) = [BitVec.ofNat 8 (0x46 + 8 * slotNumber (.reg rd))] :=
  (encode_ld_slotNumber _ _).trans (by rw [Nat.add_right_comm]; rfl)

end Sys2Proof.Machine

namespace Sys2Proof.Proofs

open Sys2Proof Sys2Proof.Machine

/-- Settles O13: both forms end in the destination written. -/
theorem registerLoads : Obligations.RegisterLoads := by
  refine ⟨fun s rd r => ?_, fun s rd n => ?_⟩
  · exact loads_of_exec_eq (exec_ld (.reg rd) (.reg r) (by simp) s) (by decide) (encode_ld_slotNumber _ _)
  · exact loads_of_exec_eq (exec_ldImm (.reg rd) n s) (by decide) (encode_ldImm_slotNumber _ n)

/-- Settles O14: every form ends in the destination written with the byte at its address, the stepping ones in `HL`
written after it. -/
theorem memoryLoads : Obligations.MemoryLoads := by
  refine ⟨fun s rd => ?_, fun s n nn i addr cost bytes row => ?_, fun s i hl' byte row => ?_⟩
  · exact loads_of_exec_eq (exec_ld (.reg rd) .hlInd (by simp) s) (by decide) (encode_ld_reg_hlInd rd)
  · simp only [← highPage_eq, List.mem_cons, List.not_mem_nil, or_false] at row
    rcases row with row | row | row | row | row
    all_goals
      cases row
      exact loads_of_exec_eq (r := .a) rfl (by decide) rfl
  · simp only [← add_neg_one_eq_sub_one, List.mem_cons, List.not_mem_nil, or_false, Prod.mk.injEq] at row
    rcases row with ⟨rfl, rfl, rfl⟩ | ⟨rfl, rfl, rfl⟩
    · exact loadsStepping_of_exec_eq rfl (by decide) rfl
    · exact loadsStepping_of_exec_eq rfl (by decide) rfl

/-- Settles O15: every form ends in a bus write of its byte at its address, the stepping ones in `HL` written after. -/
theorem memoryStores : Obligations.MemoryStores := by
  refine fun s hm => ⟨fun r n nn i addr v cost bytes row => ?_, fun i hl' byte row => ?_⟩
  · simp only [← highPage_eq, List.mem_cons, List.not_mem_nil, or_false] at row
    rcases row with reg | row | row | row | row | row | row
    · cases reg
      exact stores_of_exec_eq hm (exec_ld .hlInd (.reg r) (by simp) s) (by decide) (encode_ld_slotNumber _ _)
    all_goals
      cases row
      exact stores_of_exec_eq hm rfl (by decide) rfl
  · simp only [← add_neg_one_eq_sub_one, List.mem_cons, List.not_mem_nil, or_false, Prod.mk.injEq] at row
    rcases row with ⟨rfl, rfl, rfl⟩ | ⟨rfl, rfl, rfl⟩
    · exact storesStepping_of_exec_eq hm rfl (by decide) rfl
    · exact storesStepping_of_exec_eq hm rfl (by decide) rfl

end Sys2Proof.Proofs
end

section
/-! 16-bit loads and the stack: what a write of a pair or of `SP`, a store of a word and a push leave unchanged, the flags
of `SP+e8` and of a popped byte; and the statements of 42_load16.md. -/

namespace Sys2Proof.Machine

/-! ## Pairs written (10_state.md R21) -/

/-- A stack pair written leaves every register that is not one of its two. -/
theorem writeStackPair_reg_of_notMem {p : StackPair} {r : Reg} (h : r ∉ stackPairRegs p) (s : State) (w : Word) :
    (writeStackPair s p w).reg r = s.reg r := by
  cases p
  case bc => simp_all [stackPairRegs, writeStackPair, State.setBc_reg]
  case de => simp_all [stackPairRegs, writeStackPair, State.setDe_reg]
  case hl => simp_all [stackPairRegs, writeStackPair, State.setHl_reg]
  case af => simp_all [stackPairRegs, writeStackPair, State.setAf_reg]

/-- Only `AF` holds the flags. -/
theorem writeStackPair_f {p : StackPair} (h : p ≠ .af) (s : State) (w : Word) :
    (writeStackPair s p w).cpu.f = s.cpu.f := by
  cases p
  case af => exact absurd rfl h
  all_goals rfl

/-- One stack pair only, the flags aside. -/
theorem frame_writeStackPair (s : State) (p : StackPair) (w : Word) (n : Nat) :
    CpuFrame s ((writeStackPair s p w).setWait n) (stackPairRegs p) ∧
      KeptOutside s ((writeStackPair s p w).setWait n) := by
  refine ⟨⟨fun r hr => ?_, ?_⟩, ?_⟩
  · rw [State.setWait_reg, writeStackPair_reg_of_notMem hr]
  · cases p <;> exact ⟨rfl, rfl, rfl, rfl, rfl, rfl, rfl⟩
  · cases p <;> exact keptOutside_of_eq rfl rfl rfl rfl

/-- A write of `SP` changes nothing else. -/
theorem CpuFrame.setSp {s t : State} {regs : List Reg} (h : CpuFrame s t regs) (w : Word) :
    KeptRegs s (t.setSp w) regs ∧ (t.setSp w).cpu.pc = s.cpu.pc ∧ KeptControl s (t.setSp w) := by
  obtain ⟨kept, -, pc, control⟩ := h
  exact ⟨kept, pc, control⟩

/-- `SP` is inside the CPU. -/
theorem KeptOutside.setSp {s t : State} (h : KeptOutside s t) (w : Word) : KeptOutside s (t.setSp w) := h

/-- A pair written leaves every register that is not one of its two; `BC`, `DE` and `HL` are stack pairs too. -/
theorem writePair_reg_of_notMem {p : Pair} {r : Reg} (h : r ∉ pairRegs p) (s : State) (w : Word) :
    (writePair s p w).reg r = s.reg r := by
  cases p
  case bc => exact writeStackPair_reg_of_notMem (p := .bc) h s w
  case de => exact writeStackPair_reg_of_notMem (p := .de) h s w
  case hl => exact writeStackPair_reg_of_notMem (p := .hl) h s w
  case sp => exact State.setSp_reg s w r

/-- Only `SP` is outside the 8-bit registers. -/
theorem writePair_sp {p : Pair} (h : p ≠ .sp) (s : State) (w : Word) : (writePair s p w).cpu.sp = s.cpu.sp := by
  cases p
  case sp => exact absurd rfl h
  all_goals rfl

/-- One pair only. -/
theorem frame_writePair (s : State) (p : Pair) (w : Word) (n : Nat) :
    let t := (writePair s p w).setWait n
    t.cpu.f = s.cpu.f ∧ KeptRegs s t (pairRegs p) ∧ (p ≠ .sp → t.cpu.sp = s.cpu.sp) ∧ t.cpu.pc = s.cpu.pc ∧
      KeptControl s t ∧ KeptOutside s t := by
  refine ⟨?_, fun r hr => ?_, fun notSp => writePair_sp notSp s w, ?_, ?_, ?_⟩
  · cases p <;> rfl
  · rw [State.setWait_reg, writePair_reg_of_notMem hr]
  · cases p <;> rfl
  · cases p <;> exact ⟨rfl, rfl, rfl, rfl, rfl⟩
  · cases p <;> exact keptOutside_of_eq rfl rfl rfl rfl

/-! ## A word stored (20_memory.md R100) -/

/-- The CPU's side of a store of two bytes. -/
theorem frame_memWrite16 (s : State) (a v : Word) (n : Nat) :
    CpuFrame s ((memWrite16 s a v).setWait n) [] ∧ ((memWrite16 s a v).setWait n).cpu.f = s.cpu.f := by
  have cpu : ((memWrite16 s a v).setWait n).cpu = { s.cpu with wait := n } := by simp [memWrite16]
  obtain ⟨regs, flags, control⟩ := jumpFrame_of_cpu_eq cpu
  exact ⟨⟨regs, by rw [cpu], by rw [cpu], control⟩, flags⟩

/-! ## A word popped (40_control_flow.md R195) -/

theorem hiByte_popValue (s : State) : hiByte (popValue s) = busRead s (s.cpu.sp + 1#16) := hiByte_mkWord _ _

theorem loByte_popValue (s : State) : loByte (popValue s) = busRead s s.cpu.sp := loByte_mkWord _ _

/-- `SP` and a pair are written independently. -/
theorem writeStackPair_popState (s : State) (p : StackPair) (w : Word) :
    writeStackPair (popState s) p w = (writeStackPair s p w).setSp (s.cpu.sp + 2#16) := by
  cases p <;> rfl

/-- A byte without its low nibble is the flag byte of its upper four bits (R245). -/
theorem flagsAre_and_highNibble (v : Byte) :
    FlagsAre (v &&& 0xF0#8) (v.getLsbD 7) (v.getLsbD 6) (v.getLsbD 5) (v.getLsbD 4) := by
  unfold FlagsAre
  revert v
  decide

/-! ## The flags of `SP+e8` (R243, 43_incdec_add16.md R267) -/

theorem flagsAre_spAddFlags_lowByte (sp : Word) (e : Byte) :
    FlagsAre (spAddFlags .lowByte sp e).pack false false
      (decide (0xF < (sp.extractLsb' 0 4).toNat + (e.extractLsb' 0 4).toNat))
      (decide (0xFF < (sp.extractLsb' 0 8).toNat + e.toNat)) := by
  simp only [BitVec.extractLsb'_toNat, Nat.shiftRight_zero]
  exact flagsAre_pack rfl rfl rfl rfl

/-! ## Instructions by the way they end (R240 to R245) -/

section Ends

variable {i : Instr} {s : State} {cost : Nat} {bytes : List Byte}

/-- An instruction that ends in a pair written changes that pair only. -/
theorem writesPair_of_exec_eq {p : Pair} {w : Word} (hexec : exec i s = finish cost (writePair s p w))
    (hcost : 0 < cost) (hbytes : encode i = bytes) :
    ∃ t, exec i s = .next t ∧ readPair t p = w ∧ t.cpu.f = s.cpu.f ∧ KeptRegs s t (pairRegs p) ∧
      (p ≠ .sp → t.cpu.sp = s.cpu.sp) ∧ t.cpu.pc = s.cpu.pc ∧ KeptControl s t ∧ KeptOutside s t ∧ Costs t cost ∧
      encode i = bytes := by
  obtain ⟨flags, regs, sp, pc, control, outside⟩ := frame_writePair s p w (cost - 1)
  exact ⟨_, hexec, by simp, flags, regs, sp, pc, control, outside, costs_setWait _ hcost, hbytes⟩

/-- A push. -/
theorem finish_push16 (s : State) (hcost : 0 < cost) (hm : MemoryInv s) (v : Word) :
    ∃ t, finish cost (push16 s v) = .next t ∧ Pushed s t v ∧ t.cpu.pc = s.cpu.pc ∧ JumpFrame s t ∧
      Costs t cost := by
  have cpu : ((push16 s v).setWait (cost - 1)).cpu =
      { s.cpu with sp := s.cpu.sp - 2#16, wait := cost - 1 } := by simp
  obtain ⟨sp, stored⟩ := pushed_push16 hm v
  exact ⟨_, rfl, ⟨sp, stored.withCpu _⟩, by rw [cpu], jumpFrame_of_cpu_eq cpu, costs_setWait _ hcost⟩

end Ends

/-! ## Encodings by the numbers of the pairs (30_encoding.md R149, R152) -/

theorem encode_ldPair (p : Pair) (nn : Word) : encode (Instr.ldPair p nn) =
    [BitVec.ofNat 8 (0x01 + 16 * pairNumber p), nn.extractLsb' 0 8, nn.extractLsb' 8 8] := by
  cases p <;> rfl

theorem encode_push (p : StackPair) : encode (Instr.push p) = [BitVec.ofNat 8 (0xC5 + 16 * stackPairNumber p)] := by
  cases p <;> rfl

theorem encode_pop (p : StackPair) : encode (Instr.pop p) = [BitVec.ofNat 8 (0xC1 + 16 * stackPairNumber p)] := by
  cases p <;> rfl

end Sys2Proof.Machine

namespace Sys2Proof.Proofs

open Sys2Proof Sys2Proof.Machine

/-- Settles O16: `LD SP,HL` is a write of the pair `SP`, as the four loads are of theirs; the store of `SP` is two bus
writes, low byte first. -/
theorem pairLoads : Obligations.PairLoads := by
  refine ⟨fun s p nn => ?_, fun s nn hm => ?_, fun s => ?_⟩
  · exact writesPair_of_exec_eq (exec_ldPair p nn s) (by decide) (encode_ldPair p nn)
  · obtain ⟨frame, flags⟩ := frame_memWrite16 s nn s.cpu.sp 19
    exact ⟨_, rfl, (storedTwo_busWrite hm _ _ _ _).withCpu _, flags, frame, rfl, rfl⟩
  · obtain ⟨t, ht, sp, flags, regs, -, pc, control, outside, costs, bytes⟩ :=
      writesPair_of_exec_eq (i := .ldSpHl) (s := s) (cost := 8) (p := .sp) (w := s.hl) rfl (by decide) rfl
    exact ⟨t, ht, sp, regs, flags, pc, control, outside, costs, bytes⟩

/-- Settles O17: the flags are written first, then the sum to `HL` or to `SP`. -/
theorem stackPointerPlusOffset : Obligations.StackPointerPlusOffset := by
  intro s e lowByte hf cf
  have flags : FlagsAre (spAddFlags s.cfg.spAddFlags s.cpu.sp e).pack false false hf cf := by
    rw [lowByte]
    exact flagsAre_spAddFlags_lowByte s.cpu.sp e
  have sum : spPlus s.cpu.sp e = s.cpu.sp + signed16 e := by rw [spPlus, sext16_eq_signed16]
  constructor
  · obtain ⟨frame, outside⟩ := frame_flags s (spAddFlags s.cfg.spAddFlags s.cpu.sp e) 11
    exact ⟨_, rfl, (State.setHl_hl s _).trans sum, flags, frame.setHl _, outside.setHl _, rfl, rfl⟩
  · obtain ⟨frame, outside⟩ := frame_flags s (spAddFlags s.cfg.spAddFlags s.cpu.sp e) 15
    obtain ⟨regs, pc, control⟩ := frame.setSp (spPlus s.cpu.sp e)
    exact ⟨_, rfl, sum, flags, regs, pc, control, outside.setSp _, rfl, rfl⟩

/-- Settles O18: every form ends in a push of its pair. -/
theorem pushes : Obligations.Pushes := by
  intro s p hm
  obtain ⟨t, ht, pushed, pc, frame, costs⟩ := finish_push16 s (cost := 16) (by decide) hm (readStackPair s p)
  refine ⟨t, (exec_push p s).trans ht, ?_, pc, frame, costs, encode_push p⟩
  cases p <;> exact pushed

/-- Settles O19: every form ends in its pair written with the popped word, then `SP`; `AF` drops the low nibble. -/
theorem pops : Obligations.Pops := by
  intro s lo hi p
  obtain ⟨frame, outside⟩ := frame_writeStackPair s p (popValue s) 11
  obtain ⟨regs, pc, control⟩ := frame.setSp (s.cpu.sp + 2#16)
  have hexec : exec (Instr.pop p) s = finish 12 ((writeStackPair s p (popValue s)).setSp (s.cpu.sp + 2#16)) := by
    rw [exec_pop, opPop, writeStackPair_popState]
  refine ⟨_, hexec, rfl, regs, fun notAf => writeStackPair_f notAf s _, pc, control, outside.setSp _, rfl, ?_,
    encode_pop p⟩
  cases p
  case af =>
    have flags : FlagsAre (loByte (popValue s) &&& 0xF0#8) (lo.getLsbD 7) (lo.getLsbD 6) (lo.getLsbD 5)
        (lo.getLsbD 4) := by
      rw [loByte_popValue]
      exact flagsAre_and_highNibble lo
    exact ⟨hiByte_popValue s, flags⟩
  all_goals exact ⟨hiByte_popValue s, loByte_popValue s⟩

end Sys2Proof.Proofs
end

section
/-! Increment, decrement and 16-bit add: how an instruction ends that writes the flags, then one register or the byte at
an address; and the statements of 43_incdec_add16.md. -/

namespace Sys2Proof.Machine

/-! ## A store after the flags (20_memory.md R73) -/

/-- The flags are no part of what a store looks at. -/
theorem storedByte_busWrite_setFlags {s : State} (hm : MemoryInv s) (x : Flags) (a : Word) (v : Byte) :
    StoredByte s (busWrite (s.setFlags x) a v) a v := by
  rw [State.setFlags, busWrite_withCpu]
  exact (storedByte_busWrite hm a v).withCpu _

/-! ## Instructions by the way they end (R260 to R263) -/

section Ends

variable {i : Instr} {s : State} {x : Flags} {z n h c : Bool} {cost : Nat} {bytes : List Byte}

/-- An instruction that ends in the flags written, then one register, changes these only. -/
theorem setsFlagsAndReg_of_exec_eq {r : Reg} {v : Byte} (hexec : exec i s = finish cost ((s.setFlags x).setReg r v))
    (hflags : FlagsAre x.pack z n h c) (hcost : 0 < cost) (hbytes : encode i = bytes) :
    ∃ t, exec i s = .next t ∧ t.reg r = v ∧ FlagsAre t.cpu.f z n h c ∧ CpuFrame s t [r] ∧ KeptOutside s t ∧
      Costs t cost ∧ encode i = bytes := by
  obtain ⟨frame, outside, flags⟩ := frame_flags_reg s x r v (cost - 1)
  exact ⟨_, hexec, by simp, by rwa [flags], frame, outside, costs_setWait _ hcost, hbytes⟩

/-- An instruction that ends in the flags written, then a bus write, is a store of that byte with those flags. -/
theorem storesWithFlags_of_exec_eq {a : Word} {v : Byte} (hm : MemoryInv s)
    (hexec : exec i s = finish cost (busWrite (s.setFlags x) a v)) (hflags : FlagsAre x.pack z n h c)
    (hcost : 0 < cost) (hbytes : encode i = bytes) :
    ∃ t, exec i s = .next t ∧ StoredByte s t a v ∧ FlagsAre t.cpu.f z n h c ∧ CpuFrame s t [] ∧ Costs t cost ∧
      encode i = bytes := by
  obtain ⟨frame, flags⟩ := frame_flags_store s x a v (cost - 1)
  exact ⟨_, hexec, (storedByte_busWrite_setFlags hm x a v).withCpu _, by rwa [flags], frame, costs_setWait _ hcost,
    hbytes⟩

end Ends

/-! ## The flags (R260, R262, R266) -/

theorem flagsAre_inc8 (v : Byte) (c : Bool) :
    FlagsAre (inc8 v c).flags.pack (decide (v + 1#8 = 0#8)) false (decide (v.extractLsb' 0 4 = 0xF#4)) c :=
  flagsAre_pack rfl rfl rfl rfl

theorem flagsAre_dec8 (v : Byte) (c : Bool) :
    FlagsAre (dec8 v c).flags.pack (decide (v - 1#8 = 0#8)) true (decide (v.extractLsb' 0 4 = 0x0#4)) c :=
  flagsAre_pack rfl rfl rfl rfl

theorem flagsAre_addHlFlags (a b : Word) (z : Bool) :
    FlagsAre (addHlFlags a b z).pack z false
      (decide (0x0FFF < (a.extractLsb' 0 12).toNat + (b.extractLsb' 0 12).toNat))
      (decide (0xFFFF < a.toNat + b.toNat)) := by
  simp only [BitVec.extractLsb'_toNat, Nat.shiftRight_zero]
  exact flagsAre_pack rfl rfl rfl rfl

/-! ## Encodings by the numbers of the slots and the pairs (30_encoding.md R149) -/

theorem encode_inc (x : Slot) : encode (Instr.inc x) = [BitVec.ofNat 8 (0x04 + 8 * slotNumber x)] := by
  rcases x with r | _
  · cases r <;> rfl
  · rfl

theorem encode_dec (x : Slot) : encode (Instr.dec x) = [BitVec.ofNat 8 (0x05 + 8 * slotNumber x)] := by
  rcases x with r | _
  · cases r <;> rfl
  · rfl

theorem encode_incPair (p : Pair) : encode (Instr.incPair p) = [BitVec.ofNat 8 (0x03 + 16 * pairNumber p)] := by
  cases p <;> rfl

theorem encode_decPair (p : Pair) : encode (Instr.decPair p) = [BitVec.ofNat 8 (0x0B + 16 * pairNumber p)] := by
  cases p <;> rfl

theorem encode_addHl (p : Pair) : encode (Instr.addHl p) = [BitVec.ofNat 8 (0x09 + 16 * pairNumber p)] := by
  cases p <;> rfl

end Sys2Proof.Machine

namespace Sys2Proof.Proofs

open Sys2Proof Sys2Proof.Machine

/-- Settles O20: every form ends in the flags written, then its register or the byte at `HL`, which the flags do not
move. -/
theorem incrementsAndDecrements : Obligations.IncrementsAndDecrements := by
  refine ⟨fun s r => ?_, fun s r => ?_, fun s hm => ⟨?_, ?_⟩⟩
  · exact setsFlagsAndReg_of_exec_eq (exec_inc (.reg r) s) (flagsAre_inc8 _ _) (by decide) (encode_inc (.reg r))
  · exact setsFlagsAndReg_of_exec_eq (exec_dec (.reg r) s) (flagsAre_dec8 _ _) (by decide) (encode_dec (.reg r))
  · exact storesWithFlags_of_exec_eq hm (exec_inc .hlInd s) (flagsAre_inc8 _ _) (by decide) (encode_inc .hlInd)
  · exact storesWithFlags_of_exec_eq hm (exec_dec .hlInd s) (flagsAre_dec8 _ _) (by decide) (encode_dec .hlInd)

/-- Settles O21: `INC` and `DEC` end in their pair written; `ADD` ends in the flags written, then `HL`, both from the
pairs as they were. -/
theorem pairArithmetic : Obligations.PairArithmetic := by
  refine fun s p => ⟨?_, ?_, ?_⟩
  · exact writesPair_of_exec_eq (exec_incPair p s) (by decide) (encode_incPair p)
  · exact writesPair_of_exec_eq (exec_decPair p s) (by decide) (encode_decPair p)
  · obtain ⟨frame, outside⟩ := frame_flags s (addHlFlags s.hl (readPair s p) s.flags.z) 7
    exact ⟨_, exec_addHl p s, State.setHl_hl s _, flagsAre_addHlFlags _ _ _, frame.setHl _, outside.setHl _, rfl,
      encode_addHl p⟩

end Sys2Proof.Proofs
end

section
/-! The 8-bit ALU: the results and the flags of its operations, what every form of an operation does, and the statements
of 44_alu.md. -/

namespace Sys2Proof.Machine

/-! ## Results and flags (R281 to R288) -/

theorem add8_value_zero (a v : Byte) : (add8 a v 0).value = a + v := (BitVec.add_def a v).symm

theorem sub8_value_zero (a v : Byte) : (sub8 a v 0).value = a - v := BitVec.sub_zero (a - v)

/-- The difference with a borrow-in, modulo 2^8 (R284). -/
theorem sub8_value_toInt (a v : Byte) (c : Nat) :
    ((sub8 a v c).value.toNat : Int) = ((a.toNat : Int) - v.toNat - c) % 256 := by
  have ha := a.isLt
  have hv := v.isLt
  simp only [sub8, BitVec.toNat_sub, BitVec.toNat_ofNat]
  omega

theorem flagsAre_add8 (a v : Byte) (c : Nat) :
    FlagsAre (add8 a v c).flags.pack (decide ((add8 a v c).value = 0#8)) false
      (decide (0xF < (a.extractLsb' 0 4).toNat + (v.extractLsb' 0 4).toNat + c))
      (decide (0xFF < a.toNat + v.toNat + c)) := by
  simp only [BitVec.extractLsb'_toNat, Nat.shiftRight_zero]
  exact flagsAre_pack rfl rfl rfl rfl

theorem flagsAre_sub8 (a v : Byte) (c : Nat) :
    FlagsAre (sub8 a v c).flags.pack (decide ((sub8 a v c).value = 0#8)) true
      (decide ((a.extractLsb' 0 4).toNat < (v.extractLsb' 0 4).toNat + c)) (decide (a.toNat < v.toNat + c)) := by
  simp only [BitVec.extractLsb'_toNat, Nat.shiftRight_zero]
  exact flagsAre_pack rfl rfl rfl rfl

theorem flagsAre_logic8 (w : Byte) (h : Bool) :
    FlagsAre (logic8 w h).flags.pack (decide ((logic8 w h).value = 0#8)) false h false :=
  flagsAre_pack rfl rfl rfl rfl

/-- A comparison finds a difference of zero exactly when the two bytes are equal (R288). -/
theorem sub8_value_zero_eq_zero_iff (a v : Byte) : (sub8 a v 0).value = 0#8 ↔ a = v := by
  rw [sub8_value_zero, BitVec.sub_eq_iff_eq_add, BitVec.zero_add]

/-! ## Encodings by the numbers of the operations (30_encoding.md R151, R152) -/

theorem encode_alu_slotNumber (op : AluOp) (x : Slot) :
    encode (Instr.alu op x) = [BitVec.ofNat 8 (0x80 + 8 * aluNumber op + slotNumber x)] := by
  rcases x with r | _
  · cases op <;> cases r <;> rfl
  · cases op <;> rfl

/-- `OP A,(HL)`, with the number 6 of its operand added to the row. -/
theorem encode_alu_hlInd (op : AluOp) :
    encode (Instr.alu op .hlInd) = [BitVec.ofNat 8 (0x86 + 8 * aluNumber op)] :=
  (encode_alu_slotNumber op .hlInd).trans (by rw [Nat.add_right_comm]; rfl)

theorem encode_aluImm (op : AluOp) (n : Byte) :
    encode (Instr.aluImm op n) = [BitVec.ofNat 8 (0xC6 + 8 * aluNumber op), n] := by
  cases op <;> rfl

/-! ## The three operand forms (R280) -/

/-- Each form is the operation on its operand, at its cost, by its bytes. -/
theorem exec_of_mem_aluForms {op : AluOp} {s : State} {r : Reg} {n : Byte} {i : Instr} {v : Byte} {cost : Nat}
    {bytes : List Byte} (row : (i, v, cost, bytes) ∈ aluForms op s r n) :
    exec i s = finish cost (aluWith op v s) ∧ 0 < cost ∧ encode i = bytes := by
  simp only [aluForms, List.mem_cons, List.not_mem_nil, or_false] at row
  rcases row with reg | ind | imm
  · cases reg
    exact ⟨exec_alu op (.reg r) s, by decide, encode_alu_slotNumber op (.reg r)⟩
  · cases ind
    exact ⟨exec_alu op .hlInd s, by decide, encode_alu_hlInd op⟩
  · cases imm
    exact ⟨exec_aluImm op n s, by decide, encode_aluImm op n⟩

/-- A frame's exception for a register is not needed where that register is unchanged. -/
theorem CpuFrame.of_kept {s t : State} {r : Reg} (h : CpuFrame s t [r]) (kept : t.reg r = s.reg r) :
    CpuFrame s t [] := by
  obtain ⟨regs, others⟩ := h
  refine ⟨fun x _ => ?_, others⟩
  by_cases hx : x = r
  · rw [hx, kept]
  · exact regs x (by simpa using hx)

section Forms

variable {op : AluOp} {s : State} {r : Reg} {n : Byte} {i : Instr} {v : Byte} {cost : Nat} {bytes : List Byte}
  {res : Alu8} {fz fn fh fc : Bool}

/-- Every form writes the result and the flags of its operation on its operand, and nothing else. -/
theorem writesResult_of_mem_aluForms (row : (i, v, cost, bytes) ∈ aluForms op s r n)
    (hres : alu8 op s.cpu.a v s.flags.c = res) (hflags : FlagsAre res.flags.pack fz fn fh fc) :
    ∃ t, exec i s = .next t ∧ t.cpu.a = res.value ∧ FlagsAre t.cpu.f fz fn fh fc ∧ CpuFrame s t [.a] ∧
      KeptOutside s t ∧ Costs t cost ∧ encode i = bytes := by
  obtain ⟨hexec, hcost, hbytes⟩ := exec_of_mem_aluForms row
  rw [aluWith, hres] at hexec
  exact setsFlagsAndReg_of_exec_eq (r := .a) hexec hflags hcost hbytes

/-- Where Z is that of the result, it is that of the new `A`; the result may be known by any property. -/
theorem accumulates_of_mem_aluForms (row : (i, v, cost, bytes) ∈ aluForms op s r n)
    (hres : alu8 op s.cpu.a v s.flags.c = res)
    (hflags : FlagsAre res.flags.pack (decide (res.value = 0#8)) fn fh fc) (P : Byte → Prop) (hvalue : P res.value) :
    ∃ t, exec i s = .next t ∧ P t.cpu.a ∧ FlagsAre t.cpu.f (decide (t.cpu.a = 0#8)) fn fh fc ∧ CpuFrame s t [.a] ∧
      KeptOutside s t ∧ Costs t cost ∧ encode i = bytes := by
  obtain ⟨t, ht, value, flags, kept⟩ := writesResult_of_mem_aluForms row hres hflags
  rw [← value] at hvalue flags
  exact ⟨t, ht, hvalue, flags, kept⟩

/-- A logical operation works bit by bit (R285 to R287). -/
theorem logical_of_mem_aluForms {w : Byte} {f : Bool → Bool → Bool} (row : (i, v, cost, bytes) ∈ aluForms op s r n)
    (hres : alu8 op s.cpu.a v s.flags.c = logic8 w fh)
    (hbits : ∀ k, w.getLsbD k = f (s.cpu.a.getLsbD k) (v.getLsbD k)) :
    ∃ t, exec i s = .next t ∧ (∀ k < 8, t.cpu.a.getLsbD k = f (s.cpu.a.getLsbD k) (v.getLsbD k)) ∧
      FlagsAre t.cpu.f (decide (t.cpu.a = 0#8)) false fh false ∧ CpuFrame s t [.a] ∧ KeptOutside s t ∧
      Costs t cost ∧ encode i = bytes :=
  accumulates_of_mem_aluForms row hres (flagsAre_logic8 w fh)
    (fun a => ∀ k < 8, a.getLsbD k = f (s.cpu.a.getLsbD k) (v.getLsbD k)) fun k _ => hbits k

end Forms

end Sys2Proof.Machine

namespace Sys2Proof.Proofs

open Sys2Proof Sys2Proof.Machine

/-- Settles O22: both are the sum with a carry-in, 0 or the old carry. -/
theorem addAndAdc : Obligations.AddAndAdc := by
  refine fun s r n => ⟨fun i v cost bytes row => ?_, fun i v cost bytes row => ?_⟩
  · exact accumulates_of_mem_aluForms row rfl (flagsAre_add8 _ _ 0) (· = s.cpu.a + v) (add8_value_zero _ _)
  · exact accumulates_of_mem_aluForms row rfl (flagsAre_add8 _ _ _) (· = _) rfl

/-- Settles O23: all three are the difference with a borrow-in, 0 or the old carry; `CP` writes back the old `A`. -/
theorem subSbcAndCp : Obligations.SubSbcAndCp := by
  refine fun s r n =>
    ⟨fun i v cost bytes row => ?_, fun i v cost bytes row => ?_, fun i v cost bytes row => ?_⟩
  · exact accumulates_of_mem_aluForms row rfl (flagsAre_sub8 _ _ 0) (· = s.cpu.a - v) (sub8_value_zero _ _)
  · exact accumulates_of_mem_aluForms row rfl (flagsAre_sub8 _ _ _) (fun a => (a.toNat : Int) = _)
      (sub8_value_toInt _ _ _)
  · have flags := flagsAre_sub8 s.cpu.a v 0
    simp only [sub8_value_zero_eq_zero_iff] at flags
    obtain ⟨t, ht, value, flags, frame, kept⟩ := writesResult_of_mem_aluForms row rfl flags
    exact ⟨t, ht, flags, frame.of_kept value, kept⟩

/-- Settles O24: each is the logical result of its two bytes, whose bits are those of the operation. -/
theorem logicalOperations : Obligations.LogicalOperations := by
  intro s r n op f hf hop i v cost bytes row
  simp only [List.mem_cons, List.not_mem_nil, or_false] at hop
  rcases hop with and | xor | or
  · cases and
    exact logical_of_mem_aluForms row rfl fun _ => BitVec.getLsbD_and
  · cases xor
    exact logical_of_mem_aluForms row rfl fun _ => BitVec.getLsbD_xor
  · cases or
    exact logical_of_mem_aluForms row rfl fun _ => BitVec.getLsbD_or

end Sys2Proof.Proofs
end

section
/-! The accumulator: rotates by shifts, the adjustment of `DAA` as a sum, how an instruction ends that writes the flags
only; and the statements of 45_accumulator.md. -/

namespace Sys2Proof.Machine

/-! ## Rotates (R300 to R303, 46_cb_extended.md R316 to R323) -/

/-- The model joins fields of `v` where the rules shift it; for each operation, one byte and one carry are all there
is. -/
theorem rotate8_eq_shifted (op : RotOp) (v : Byte) (c : Bool) : rotate8 op v c = shifted op v c := by
  revert v c
  cases op
  all_goals decide

theorem rotA8_value (op : RotOp) (a : Byte) (c : Bool) : (rotA8 op a c).value = (shifted op a c).1 :=
  congrArg Prod.fst (rotate8_eq_shifted op a c)

theorem flagsAre_rotA8 (op : RotOp) (a : Byte) (c : Bool) :
    FlagsAre (rotA8 op a c).flags.pack false false false (shifted op a c).2 :=
  flagsAre_pack rfl rfl rfl (congrArg Prod.snd (rotate8_eq_shifted op a c))

/-! ## Decimal adjust (R304) -/

/-- The two digits of the adjustment have no bit in common: joining them is adding them. -/
theorem daaAdjust_eq_add (a : Byte) (f : Flags) :
    daaAdjust a f = (if f.h ∨ (f.n = false ∧ 9 < a.toNat % 16) then 0x06#8 else 0#8) +
      (if f.c ∨ (f.n = false ∧ 0x99 < a.toNat) then 0x60#8 else 0#8) := by
  unfold daaAdjust
  split_ifs <;> rfl

/-- After an addition: the sum of `A` and the two digits, modulo 2^8. -/
theorem daa8_value_of_addition {f : Flags} (hn : f.n = false) (a : Byte) :
    (daa8 a f).value = BitVec.ofNat 8 (a.toNat +
      ((if f.h = true ∨ 9 < (a.extractLsb' 0 4).toNat then 0x06 else 0) +
        (if f.c = true ∨ 0x99 < a.toNat then 0x60 else 0))) := by
  simp only [daa8, daaAdjust_eq_add, hn, Bool.false_eq_true, if_false, true_and, BitVec.extractLsb'_toNat,
    Nat.shiftRight_zero, BitVec.ofNat_add, BitVec.ofNat_toNat, BitVec.setWidth_eq]
  split_ifs <;> rfl

/-- After a subtraction: the two digits follow H and C alone. -/
theorem daa8_value_of_subtraction {f : Flags} (hn : f.n = true) (a : Byte) :
    (daa8 a f).value = a - ((if f.h = true then 0x06#8 else 0#8) + (if f.c = true then 0x60#8 else 0#8)) := by
  simp [daa8, daaAdjust_eq_add, hn]

theorem flagsAre_daa8 (a : Byte) (f : Flags) :
    FlagsAre (daa8 a f).flags.pack (decide ((daa8 a f).value = 0#8)) f.n false
      (f.c || (!f.n && decide (0x99 < a.toNat))) :=
  flagsAre_pack rfl rfl rfl rfl

/-! ## An instruction that writes the flags only (R306, R307) -/

/-- An instruction that ends in the flags written changes these only. -/
theorem setsFlags_of_exec_eq {i : Instr} {s : State} {x : Flags} {z n h c : Bool} {cost : Nat} {bytes : List Byte}
    (hexec : exec i s = finish cost (s.setFlags x)) (hflags : FlagsAre x.pack z n h c) (hcost : 0 < cost)
    (hbytes : encode i = bytes) :
    ∃ t, exec i s = .next t ∧ FlagsAre t.cpu.f z n h c ∧ CpuFrame s t [] ∧ KeptOutside s t ∧ Costs t cost ∧
      encode i = bytes := by
  obtain ⟨frame, outside⟩ := frame_flags s x (cost - 1)
  exact ⟨_, hexec, hflags, frame, outside, costs_setWait _ hcost, hbytes⟩

end Sys2Proof.Machine

namespace Sys2Proof.Proofs

open Sys2Proof Sys2Proof.Machine

/-- Settles O26: the flags and `A` are those of one computation, whose two arms are the rule's. -/
theorem decimalAdjust : Obligations.DecimalAdjust := by
  intro s a n hf c
  obtain ⟨t, ht, value, flags, kept⟩ :=
    setsFlagsAndReg_of_exec_eq (i := .daa) (s := s) (r := .a) (cost := 4) rfl (flagsAre_daa8 a s.flags) (by decide) rfl
  rw [← value] at flags
  refine ⟨t, ht, fun addition => ?_, fun subtraction => ?_, kept⟩
  · have hn : s.flags.n = false := addition
    rw [hn] at flags
    exact ⟨value.trans (daa8_value_of_addition hn a), flags⟩
  · have hn : s.flags.n = true := subtraction
    rw [hn, Bool.not_true, Bool.false_and, Bool.or_false] at flags
    exact ⟨value.trans (daa8_value_of_subtraction hn a), flags⟩

/-- Settles O25: every form writes the rotated `A` with Z, N and H clear, and C the bit that leaves. -/
theorem accumulatorRotates : Obligations.AccumulatorRotates := by
  intro s i op byte row
  obtain ⟨hexec, hbytes⟩ : exec i s = opRotA op s ∧ encode i = [byte] := by
    simp only [List.mem_cons, List.not_mem_nil, or_false] at row
    rcases row with row | row | row | row
    all_goals
      cases row
      exact ⟨rfl, rfl⟩
  obtain ⟨t, ht, value, flags, kept⟩ :=
    setsFlagsAndReg_of_exec_eq (r := .a) hexec (flagsAre_rotA8 op s.cpu.a s.flags.c) (by decide) hbytes
  exact ⟨t, ht, value.trans (rotA8_value op s.cpu.a s.flags.c), flags, kept⟩

/-- Settles O27: `CPL` ends in the flags written, then `A`; `SCF` and `CCF` in the flags written. -/
theorem complementAndCarry : Obligations.ComplementAndCarry := by
  intro s
  have complement : s.cpu.a ^^^ 0xFF#8 = ~~~s.cpu.a := BitVec.xor_allOnes
  refine ⟨?_, ?_, ?_⟩
  · rw [← complement]
    exact setsFlagsAndReg_of_exec_eq (r := .a) rfl (flagsAre_pack rfl rfl rfl rfl) (by decide) rfl
  · exact setsFlags_of_exec_eq rfl (flagsAre_pack rfl rfl rfl rfl) (by decide) rfl
  · exact setsFlags_of_exec_eq rfl (flagsAre_pack rfl rfl rfl rfl) (by decide) rfl

end Sys2Proof.Proofs
end

section
/-! The extended table: its bytes by their fields, the flags of its rotates and shifts, the single bits that `RES` and
`SET` write; and the statements of 46_cb_extended.md. -/

namespace Sys2Proof.Machine

/-! ## The fields of a byte given by them (30_encoding.md R141) -/

theorem fields_ofFields {x y z : Nat} (hx : x < 4) (hy : y < 8) (hz : z < 8) :
    fieldX (ofFields x y z) = x ∧ fieldY (ofFields x y z) = y ∧ fieldZ (ofFields x y z) = z := by
  simp only [fieldX, fieldY, fieldZ, ofFields, BitVec.toNat_ofNat]
  omega

/-! ## Encodings by the numbers of the slots and the operations (30_encoding.md R143, R153) -/

theorem slotNumber_lt_eight (x : Slot) : slotNumber x < 8 := by
  rcases x with r | _
  · cases r <;> decide
  · decide

theorem rotNumber_lt_eight (op : RotOp) : rotNumber op < 8 := by
  cases op <;> decide

theorem slot_ofField_slotNumber (x : Slot) : Slot.ofField (slotNumber x) = x := by
  rcases x with r | _
  · cases r <;> rfl
  · rfl

theorem rotOp_ofField_rotNumber (op : RotOp) : RotOp.ofField (rotNumber op) = op := by
  cases op <;> rfl

/-- What the extended table selects by the fields `x`, `y` and a slot is encoded by `0xCB` and the byte with
these fields. -/
theorem encode_of_decodeExt {x y : Nat} {slot : Slot} {i : Instr} (hx : x < 4) (hy : y < 8)
    (row : ∀ op2, fieldX op2 = x → fieldY op2 = y → Slot.ofField (fieldZ op2) = slot → decodeExt op2 = i) :
    encode i = [0xCB#8, ofFields x y (slotNumber slot)] := by
  obtain ⟨atX, atY, atZ⟩ := fields_ofFields hx hy (slotNumber_lt_eight slot)
  rw [← row _ atX atY (by rw [atZ, slot_ofField_slotNumber]), encode_decodeExt]

theorem encode_rot (op : RotOp) (x : Slot) :
    encode (Instr.rot op x) = [0xCB#8, BitVec.ofNat 8 (8 * rotNumber op + slotNumber x)] := by
  rw [← Nat.zero_add (8 * rotNumber op)]
  exact encode_of_decodeExt (x := 0) (by decide) (rotNumber_lt_eight op) fun op2 hx hy hz => by
    simp only [decodeExt, hx, hy, hz, rotOp_ofField_rotNumber]

theorem encode_bit (b : Fin 8) (x : Slot) :
    encode (Instr.bit b.val x) = [0xCB#8, BitVec.ofNat 8 (0x40 + 8 * b.val + slotNumber x)] :=
  encode_of_decodeExt (x := 1) (by decide) b.isLt fun op2 hx hy hz => by simp only [decodeExt, hx, hy, hz]

theorem encode_res (b : Fin 8) (x : Slot) :
    encode (Instr.res b.val x) = [0xCB#8, BitVec.ofNat 8 (0x80 + 8 * b.val + slotNumber x)] :=
  encode_of_decodeExt (x := 2) (by decide) b.isLt fun op2 hx hy hz => by simp only [decodeExt, hx, hy, hz]

theorem encode_set (b : Fin 8) (x : Slot) :
    encode (Instr.set b.val x) = [0xCB#8, BitVec.ofNat 8 (0xC0 + 8 * b.val + slotNumber x)] :=
  encode_of_decodeExt (x := 3) (by decide) b.isLt fun op2 hx hy hz => by simp only [decodeExt, hx, hy, hz]

/-- `BIT b,(HL)`, with the number 6 of its operand added to the row. -/
theorem encode_bit_hlInd (b : Fin 8) :
    encode (Instr.bit b.val .hlInd) = [0xCB#8, BitVec.ofNat 8 (0x46 + 8 * b.val)] :=
  (encode_bit b .hlInd).trans (by rw [Nat.add_right_comm]; rfl)

/-! ## Results and flags (R316 to R324) -/

theorem rot8_value (op : RotOp) (v : Byte) (c : Bool) : (rot8 op v c).value = (shifted op v c).1 :=
  congrArg Prod.fst (rotate8_eq_shifted op v c)

theorem flagsAre_rot8 (op : RotOp) (v : Byte) (c : Bool) :
    FlagsAre (rot8 op v c).flags.pack (decide ((shifted op v c).1 = 0#8)) false false (shifted op v c).2 := by
  rw [← rotate8_eq_shifted]
  exact flagsAre_pack rfl rfl rfl rfl

theorem flagsAre_bitFlags (b : Nat) (v : Byte) (c : Bool) :
    FlagsAre (bitFlags b v c).pack (!v.getLsbD b) false true c :=
  flagsAre_pack rfl rfl rfl rfl

/-- Every form writes the flags, then the shifted byte to its slot. -/
theorem exec_rot_shifted (op : RotOp) (x : Slot) (s : State) :
    exec (Instr.rot op x) s = finish (8 + 2 * slotCost x)
      (writeSlot (s.setFlags (rot8 op (readSlot s x) s.flags.c).flags) x
        (shifted op (readSlot s x) s.flags.c).1) := by
  rw [exec_rot, opRot, rot8_value]

/-! ## Single bits (R325, R326) -/

/-- The mask of `RES b` and `SET b` has the bit `b` alone. -/
theorem getLsbD_bitMask (b : Fin 8) (k : Nat) : (1#8 <<< b.val).getLsbD k = decide (k = b.val) := by
  rw [← BitVec.twoPow_eq, BitVec.getLsbD_twoPow]
  simp [eq_comm]

theorem getLsbD_resBit (b : Fin 8) (v : Byte) {k : Nat} (hk : k < 8) :
    (resBit b.val v).getLsbD k = if k = b.val then false else v.getLsbD k := by
  rw [resBit, BitVec.getLsbD_and, BitVec.getLsbD_not, getLsbD_bitMask]
  split_ifs with h <;> simp [h, hk]

theorem getLsbD_setBit (b : Fin 8) (v : Byte) (k : Nat) :
    (setBit b.val v).getLsbD k = if k = b.val then true else v.getLsbD k := by
  rw [setBit, BitVec.getLsbD_or, getLsbD_bitMask]
  split_ifs with h <;> simp [h]

/-- `RES b` and `SET b` are one instruction with the bit `w` to be written: each form writes its slot with a byte that
has `w` in place of bit `b`. -/
theorem exec_of_mem_bitWrites {ins : Nat → Slot → Instr} {w : Bool} {base : Nat}
    (row : (ins, w, base) ∈ [(Instr.res, false, 0x80), (Instr.set, true, 0xC0)]) (b : Fin 8) (x : Slot) (s : State) :
    ∃ v : Byte, (∀ k < 8, v.getLsbD k = if k = b.val then w else (readSlot s x).getLsbD k) ∧
      exec (ins b.val x) s = finish (8 + 2 * slotCost x) (writeSlot s x v) ∧
      encode (ins b.val x) = [0xCB#8, BitVec.ofNat 8 (base + 8 * b.val + slotNumber x)] := by
  simp only [List.mem_cons, List.not_mem_nil, or_false] at row
  rcases row with isRes | isSet
  · cases isRes
    exact ⟨_, fun _ hk => getLsbD_resBit b (readSlot s x) hk, exec_res b x s, encode_res b x⟩
  · cases isSet
    exact ⟨_, fun k _ => getLsbD_setBit b (readSlot s x) k, exec_set b x s, encode_set b x⟩

end Sys2Proof.Machine

namespace Sys2Proof.Proofs

open Sys2Proof Sys2Proof.Machine

/-- Settles O28: every form ends in the flags written, then its register or the byte at `HL`, which the flags do not
move. -/
theorem rotatesAndShifts : Obligations.RotatesAndShifts := by
  refine fun s op => ⟨fun r => ?_, fun hm => ?_⟩
  · exact setsFlagsAndReg_of_exec_eq (exec_rot_shifted op (.reg r) s) (flagsAre_rot8 op _ _) (by decide)
      (encode_rot op (.reg r))
  · exact storesWithFlags_of_exec_eq hm (exec_rot_shifted op .hlInd s) (flagsAre_rot8 op _ _) (by decide)
      (encode_rot op .hlInd)

/-- Settles O29: both forms end in the flags written. -/
theorem bitTests : Obligations.BitTests := by
  refine fun s b => ⟨fun r => ?_, ?_⟩
  · exact setsFlags_of_exec_eq (exec_bit b (.reg r) s) (flagsAre_bitFlags _ _ _) (by decide) (encode_bit b (.reg r))
  · exact setsFlags_of_exec_eq (exec_bit b .hlInd s) (flagsAre_bitFlags _ _ _) (by decide) (encode_bit_hlInd b)

/-- Settles O30: the register form ends in the register written, the form at `HL` in a bus write, each of a byte that
has the one bit in place. -/
theorem bitWrites : Obligations.BitWrites := by
  refine fun s b ins w base row => ⟨fun r => ?_, fun hm => ?_⟩
  · obtain ⟨v, bits, hexec, hbytes⟩ := exec_of_mem_bitWrites row b (.reg r) s
    obtain ⟨t, ht, rfl, kept⟩ := loads_of_exec_eq (cost := 8) hexec (by decide) hbytes
    exact ⟨t, ht, bits, kept⟩
  · obtain ⟨v, bits, hexec, hbytes⟩ := exec_of_mem_bitWrites row b .hlInd s
    obtain ⟨t, ht, stored⟩ := stores_of_exec_eq (cost := 16) hm hexec (by decide) hbytes
    exact ⟨t, v, ht, bits, stored⟩

end Sys2Proof.Proofs
end

section
/-! The divider and the timer, each half of a timer tick on its own; the bits of a raised interrupt request; and the
statement about the end of a step (60_exceptions.md R411 to R414). -/

namespace Sys2Proof.Machine

/-! ## The divider (R411) -/

section Timer

variable {cfg : Config} {b : Bus}

/-- The divider's part of a tick reaches `DIV` only. -/
theorem Bus.dividerTick_eq (cfg : Config) (b : Bus) :
    b.dividerTick cfg = { b with div := if b.tick % cfg.divPeriod = 0 then b.div + 1#8 else b.div } := by
  unfold Bus.dividerTick
  split <;> rfl

/-! ## The timer counter (R413, R414) -/

theorem Bus.timaIncrement_of_overflow (h : b.tima = 0xFF#8) :
    b.timaIncrement = { b with tima := b.tma, iflag := b.iflag ||| 0b00100#5 } := if_pos h

theorem Bus.timaIncrement_of_ne (h : b.tima ≠ 0xFF#8) : b.timaIncrement = { b with tima := b.tima + 1#8 } := if_neg h

theorem Bus.timaIncrement_div (b : Bus) : b.timaIncrement.div = b.div := by
  unfold Bus.timaIncrement
  split <;> rfl

theorem Bus.timerDue_iff : b.timerDue cfg = true ↔
    b.tac.getLsbD 2 = true ∧ b.tick % timerRateOf cfg.timerRate (b.tac.extractLsb' 0 2) = 0 := by
  simp [Bus.timerDue]

/-- What makes the timer count is none of the divider's doing. -/
theorem Bus.timerDue_dividerTick (cfg : Config) (b : Bus) : (b.dividerTick cfg).timerDue cfg = b.timerDue cfg := by
  rw [Bus.dividerTick_eq]
  rfl

theorem Bus.timerTick_of_due (h : b.timerDue cfg = true) : b.timerTick cfg = (b.dividerTick cfg).timaIncrement :=
  if_pos ((Bus.timerDue_dividerTick cfg b).trans h)

theorem Bus.timerTick_of_not_due (h : ¬ b.timerDue cfg = true) : b.timerTick cfg = b.dividerTick cfg :=
  if_neg (by rwa [Bus.timerDue_dividerTick])

/-- The timer's half of a tick leaves the divider's. -/
theorem Bus.timerTick_div (cfg : Config) (b : Bus) :
    (b.timerTick cfg).div = if b.tick % cfg.divPeriod = 0 then b.div + 1#8 else b.div := by
  by_cases due : b.timerDue cfg = true
  · rw [Bus.timerTick_of_due due, Bus.timaIncrement_div, Bus.dividerTick_eq]
  · rw [Bus.timerTick_of_not_due due, Bus.dividerTick_eq]

theorem Bus.timerTick_of_overflow (due : b.timerDue cfg = true) (h : b.tima = 0xFF#8) :
    (b.timerTick cfg).tima = b.tma ∧ (b.timerTick cfg).iflag = b.iflag ||| 0b00100#5 := by
  have counter : (b.dividerTick cfg).tima = 0xFF#8 := by rw [Bus.dividerTick_eq, h]
  rw [Bus.timerTick_of_due due, Bus.timaIncrement_of_overflow counter, Bus.dividerTick_eq]
  exact ⟨rfl, rfl⟩

theorem Bus.timerTick_of_count (due : b.timerDue cfg = true) (h : b.tima ≠ 0xFF#8) :
    (b.timerTick cfg).tima = b.tima + 1#8 ∧ (b.timerTick cfg).iflag = b.iflag := by
  have counter : (b.dividerTick cfg).tima ≠ 0xFF#8 := by rwa [Bus.dividerTick_eq]
  rw [Bus.timerTick_of_due due, Bus.timaIncrement_of_ne counter, Bus.dividerTick_eq]
  exact ⟨rfl, rfl⟩

theorem Bus.timerTick_idle (h : ¬ b.timerDue cfg = true) :
    (b.timerTick cfg).tima = b.tima ∧ (b.timerTick cfg).iflag = b.iflag := by
  rw [Bus.timerTick_of_not_due h, Bus.dividerTick_eq]
  exact ⟨rfl, rfl⟩

end Timer

end Sys2Proof.Machine

namespace Sys2Proof.Proofs

open Sys2Proof Sys2Proof.Machine

/-- Settles O38: the divider counts whatever the timer does, the timer as it is due and as `TIMA` overflows. -/
theorem dividerAndTimer : Obligations.DividerAndTimer := by
  refine ⟨rfl, rfl, fun s => ?_⟩
  intro t rate due
  have due_iff : s.bus.timerDue s.cfg = true ↔ due := Bus.timerDue_iff
  have div := Bus.timerTick_div s.cfg s.bus
  refine ⟨fun h => ?_, fun h => ?_, fun h overflow => ?_, fun h count => ?_, fun h => ?_, ?_⟩
  · exact div.trans (if_pos h)
  · exact div.trans (if_neg h)
  · exact Bus.timerTick_of_overflow (due_iff.2 h) overflow
  · exact Bus.timerTick_of_count (due_iff.2 h) count
  · exact Bus.timerTick_idle (mt due_iff.1 h)
  · obtain ⟨d, c, f, frame⟩ := timerTick_eq s
    rw [show t = _ from frame]

end Sys2Proof.Proofs
end

section
/-! The joypad register bit by bit, the buttons' levels, and the statement about `JOYP` and `SetButton` (10_state.md R42,
R43, 60_exceptions.md R421). -/

namespace Sys2Proof.Machine

/-! ## The joypad register (R42) -/

/-- A bit of a row's share of the low nibble: high unless the row is selected (its select bit 0) and the line
pressed. -/
theorem getLsbD_rowLines (sel : Bool) (pressed : BitVec 4) {k : Nat} (hk : k < 4) :
    (if sel = true then 0xF#4 else ~~~pressed).getLsbD k = !(!sel && pressed.getLsbD k) := by
  cases sel
  case false => simp [hk]
  case true =>
    have ones : (0xF#4).getLsbD k = true := by interval_cases k <;> rfl
    simp [ones]

/-- A low bit of `JOYP` is 0 exactly when its line is pressed in a selected row. -/
theorem Bus.getLsbD_joypRead_low (b : Bus) {k : Nat} (hk : k < 4) :
    b.joypRead.getLsbD k = !((!b.joypSel.getLsbD 0 && b.buttons.dir.getLsbD k) ||
      (!b.joypSel.getLsbD 1 && b.buttons.act.getLsbD k)) := by
  simp only [Bus.joypRead, BitVec.getLsbD_append, hk, if_true, BitVec.getLsbD_and, getLsbD_rowLines _ _ hk,
    Bool.not_or]

/-- The high bits of `JOYP`: two fixed ones above the select bits. -/
theorem Bus.getLsbD_joypRead_high (b : Bus) :
    b.joypRead.getLsbD 7 = true ∧ b.joypRead.getLsbD 6 = true ∧ b.joypRead.getLsbD 5 = b.joypSel.getLsbD 1 ∧
      b.joypRead.getLsbD 4 = b.joypSel.getLsbD 0 := by
  simp only [Bus.joypRead, BitVec.getLsbD_append]
  simp

theorem Buttons.getLsbD_dir (k : Buttons) :
    k.dir.getLsbD 3 = k.down ∧ k.dir.getLsbD 2 = k.up ∧ k.dir.getLsbD 1 = k.left ∧ k.dir.getLsbD 0 = k.right := by
  simp only [Buttons.dir, BitVec.getLsbD_append]
  simp

theorem Buttons.getLsbD_act (k : Buttons) :
    k.act.getLsbD 3 = k.start ∧ k.act.getLsbD 2 = k.select ∧ k.act.getLsbD 1 = k.b ∧ k.act.getLsbD 0 = k.a := by
  simp only [Buttons.act, BitVec.getLsbD_append]
  simp

/-! ## The buttons (R43, R421) -/

theorem Buttons.level_setLevel_same (k : Buttons) (x : Button) (v : Bool) : (k.setLevel x v).level x = v := by
  cases x <;> rfl

/-- The lines are separate. -/
theorem Buttons.level_setLevel_of_ne (k : Buttons) {x y : Button} (h : y ≠ x) (v : Bool) :
    (k.setLevel x v).level y = k.level y := by
  cases x
  all_goals cases y
  any_goals rfl
  all_goals exact absurd rfl h

/-- `SetButton` where no press wakes a stopped machine: the request of a press, and the level. -/
theorem setButton_of_never {s : State} (never : s.cfg.stopWake = .never) (x : Button) (v : Bool) :
    setButton s x v = { s with
      bus.iflag := if v = true ∧ s.bus.buttons.level x = false then s.bus.iflag ||| 0b10000#5 else s.bus.iflag
      bus.buttons := s.bus.buttons.setLevel x v } := by
  by_cases press : v = true ∧ s.bus.buttons.level x = false
  · obtain ⟨down, up⟩ := press
    simp [setButton, wakeStopped, never, down, up, Bus.raise, IrqSource.bit]
  · have quiet : ¬ (v && !s.bus.buttons.level x) = true := by simpa using press
    simp only [setButton, if_neg quiet, if_neg press]

end Sys2Proof.Machine

namespace Sys2Proof.Proofs

open Sys2Proof Sys2Proof.Machine

/-- Settles O42: the read by its bits, high and low; `SetButton` as the one update it makes. -/
theorem joypadAndButtons : Obligations.JoypadAndButtons := by
  refine ⟨fun s => ?_, fun s x v never => ?_⟩
  · obtain ⟨down, up, left, right⟩ := s.bus.buttons.getLsbD_dir
    obtain ⟨start, select, b, a⟩ := s.bus.buttons.getLsbD_act
    obtain ⟨bit7, bit6, bit5, bit4⟩ := s.bus.getLsbD_joypRead_high
    rw [busRead_joyp]
    refine ⟨bit7, bit6, bit5, bit4, ?_, ?_, ?_, ?_⟩
    · rw [Bus.getLsbD_joypRead_low _ (by decide), down, start]
    · rw [Bus.getLsbD_joypRead_low _ (by decide), up, select]
    · rw [Bus.getLsbD_joypRead_low _ (by decide), left, b]
    · rw [Bus.getLsbD_joypRead_low _ (by decide), right, a]
  · intro t
    have update : t = _ := setButton_of_never never x v
    rw [update]
    exact ⟨fun h => if_pos h, fun h => if_neg h, Buttons.level_setLevel_same _ x v,
      fun y h => Buttons.level_setLevel_of_ne _ h v, rfl⟩

end Sys2Proof.Proofs
end

section
/-! The mode and the registers a dot compares, through each part of its work; and the statement about the interrupt
requests of a dot (60_exceptions.md R424, R436, R437). -/

namespace Sys2Proof.Machine

/-! ## Interrupt requests (R362) -/

theorem getLsbD_requestMask (i : IrqSource) (k : Nat) : (1#5 <<< i.bit).getLsbD k = decide (k = i.bit) := by
  have inRange : i.bit < 5 := by cases i <;> decide
  rw [← BitVec.twoPow_eq, BitVec.getLsbD_twoPow]
  simp [inRange, eq_comm]

/-- A conditional request sets its source's bit and no other. -/
theorem Bus.getLsbD_raiseIf_iflag (b : Bus) (on : Bool) (i : IrqSource) (k : Nat) :
    (b.raiseIf on i).iflag.getLsbD k = (b.iflag.getLsbD k || (on && decide (k = i.bit))) := by
  cases on
  case false => simp [Bus.raiseIf]
  case true => rw [Bus.raiseIf, if_pos rfl, Bus.raise, BitVec.getLsbD_or, getLsbD_requestMask, Bool.true_and]

/-! ## The parts of a dot's work (R424, R426) -/

theorem Ppu.reload_eq (p : Ppu) :
    p.reload = { p with frameBudget := if p.frameBudget = 0 then 70224 else p.frameBudget } := by
  unfold Ppu.reload
  split <;> rfl

/-- A dot enters mode 2, 3 or 1, or starts no mode (R424, R436). -/
theorem Ppu.enterMode_cases (p : Ppu) :
    (p.ly.toNat < 144 ∧ p.dot = 0 ∧ p.enterMode = { p with mode := .search }.oamSearch) ∨
      (p.ly.toNat < 144 ∧ p.dot = 80 ∧ p.enterMode = { p with mode := .draw }.startDraw) ∨
      (p.ly.toNat = 144 ∧ p.dot = 0 ∧ p.enterMode = { p with mode := .vblank }) ∨
      p.enterMode = p := by
  unfold Ppu.enterMode
  split_ifs with visible dot0 dot80 first
  · exact .inl ⟨visible, dot0, rfl⟩
  · exact .inr (.inl ⟨visible, dot80, rfl⟩)
  · exact .inr (.inr (.inr rfl))
  · exact .inr (.inr (.inl ⟨first.1, first.2, rfl⟩))
  · exact .inr (.inr (.inr rfl))

/-- Entering a mode leaves what the dot compares. -/
theorem Ppu.enterMode_keeps (p : Ppu) :
    p.enterMode.statEn = p.statEn ∧ p.enterMode.ly = p.ly ∧ p.enterMode.lyc = p.lyc := by
  rcases p.enterMode_cases with ⟨-, -, h⟩ | ⟨-, -, h⟩ | ⟨-, -, h⟩ | h
  all_goals
    rw [h]
    exact ⟨rfl, rfl, rfl⟩

theorem Ppu.enterMode_of_first {p : Ppu} (first : p.ly.toNat = 144 ∧ p.dot = 0) :
    p.enterMode = { p with mode := .vblank } := by
  have hidden : ¬ p.ly.toNat < 144 := by omega
  rw [Ppu.enterMode, if_neg hidden, if_pos first]

theorem Ppu.drawPhase_of_hidden {p : Ppu} (hidden : ¬ p.ly.toNat < 144) : p.drawPhase = p :=
  if_neg fun h => hidden h.1

theorem Ppu.drawPhase_keeps (p : Ppu) : DrawKeeps p p.drawPhase := by
  unfold Ppu.drawPhase
  split
  · exact p.drawDot_keeps
  · exact .refl p

/-- The counters do not touch the mode or the coincidence flag. -/
theorem Ppu.advance_keeps (p : Ppu) : p.advance.mode = p.mode ∧ p.advance.coincidence = p.coincidence := by
  rcases p.advance_cases with ⟨-, h⟩ | ⟨-, h⟩
  all_goals
    rw [h]
    exact ⟨rfl, rfl⟩

/-! ## The work as a whole (R436, R437) -/

/-- The enables are kept, and the line is compared before it advances. -/
theorem Ppu.dotWork_compares (p : Ppu) :
    p.dotWork.statEn = p.statEn ∧ p.dotWork.coincidence = (p.lyc == p.ly) := by
  obtain ⟨statEn, ly, lyc⟩ := p.reload.enterMode_keeps
  have draw := p.reload.enterMode.drawPhase_keeps
  have reload := p.reload_eq
  refine ⟨?_, ?_⟩
  · show p.reload.enterMode.drawPhase.statEn = _
    rw [draw.statEn, statEn, reload]
  · show (p.reload.enterMode.drawPhase.lyc == p.reload.enterMode.drawPhase.ly) = _
    rw [draw.lyc, draw.ly, lyc, ly, reload]

/-- The first dot of line 144 ends in mode 1: no drawing follows that could leave it. -/
theorem Ppu.dotWork_mode_of_first {p : Ppu} (first : p.ly.toNat = 144 ∧ p.dot = 0) : p.dotWork.mode = .vblank := by
  have first' : p.reload.ly.toNat = 144 ∧ p.reload.dot = 0 := by rwa [p.reload_eq]
  have hidden : ¬ p.reload.enterMode.ly.toNat < 144 := by
    obtain ⟨-, ly, -⟩ := p.reload.enterMode_keeps
    rw [ly]
    omega
  rw [Ppu.dotWork, Ppu.drawPhase_of_hidden hidden, Ppu.enterMode_of_first first']
  rfl

/-- The lcd-status condition, on the mode after the work (R437). -/
theorem Ppu.statCondition_dotWork_iff (p : Ppu) : p.dotWork.statCondition = true ↔
    (p.statEn.getLsbD 3 = true ∧ p.lyc = p.ly) ∨ (p.statEn.getLsbD 2 = true ∧ p.dotWork.mode = .search) ∨
      (p.statEn.getLsbD 1 = true ∧ p.dotWork.mode = .vblank) ∨
      (p.statEn.getLsbD 0 = true ∧ p.dotWork.mode = .hblank) := by
  obtain ⟨statEn, coincidence⟩ := p.dotWork_compares
  simp only [Ppu.statCondition, statEn, coincidence, Bool.or_eq_true, Bool.and_eq_true, beq_iff_eq, or_assoc]

/-- A dot's requests: vblank, then lcd-status. -/
theorem getLsbD_ppuDot_iflag (s : State) (k : Nat) : (ppuDot s).bus.iflag.getLsbD k =
    (s.bus.iflag.getLsbD k || (s.ppu.vblankRequest && decide (k = 0)) ||
      (s.ppu.dotWork.statCondition && decide (k = 1))) := by
  rw [ppuDot, Bus.getLsbD_raiseIf_iflag, Bus.getLsbD_raiseIf_iflag]
  rfl

theorem Ppu.vblankRequest_iff (p : Ppu) : p.vblankRequest = true ↔ p.ly.toNat = 144 ∧ p.dot = 0 := by
  simp [Ppu.vblankRequest]

end Sys2Proof.Machine

namespace Sys2Proof.Proofs

open Sys2Proof Sys2Proof.Machine

/-- Settles O48: each request is one bit of `IF`, on the mode and the comparison that the dot's work leaves and the
counters keep. -/
theorem dotRequests : Obligations.DotRequests := by
  intro s t first condition
  obtain ⟨mode, coincidence⟩ : t.ppu.mode = s.ppu.dotWork.mode ∧ t.ppu.coincidence = s.ppu.dotWork.coincidence :=
    s.ppu.dotWork.advance_keeps
  have condition_iff : s.ppu.dotWork.statCondition = true ↔ condition := by
    simpa only [condition, mode] using s.ppu.statCondition_dotWork_iff
  obtain ⟨f, frame⟩ := ppuDot_eq s
  refine ⟨?_, ?_, fun k hk => ?_, fun h => ?_, ?_, ?_⟩
  · rw [getLsbD_ppuDot_iflag]
    simp [-BitVec.getLsbD_eq_getElem, Ppu.vblankRequest_iff, first]
  · rw [getLsbD_ppuDot_iflag]
    simp [-BitVec.getLsbD_eq_getElem, condition_iff]
  · have others : k ≠ 0 ∧ k ≠ 1 := by omega
    simp [t, getLsbD_ppuDot_iflag, others]
  · exact mode.trans (Ppu.dotWork_mode_of_first h)
  · rw [coincidence, s.ppu.dotWork_compares.2, beq_iff_eq]
  · rw [show t = _ from frame]
    exact ⟨rfl, rfl, rfl, rfl⟩

end Sys2Proof.Proofs
end

section
/-! Decoding is the inverse of encoding, both ways: every complete instruction is read off its own bytes, whatever follows
them, and every byte string is the encoding of what it decodes to; and what a step does at a fetch, by what the bytes
at `PC` decode to (30_encoding.md R140 to R158). -/

namespace Sys2Proof.Machine

/-! ## Reading an instruction off its own bytes (30_encoding.md R149 to R153) -/

/-- The case split over the rows of the opcode table: each is selected again by the bytes it is encoded by, and what
follows them is not looked at. A 16-bit operand is put together from its two bytes. -/
theorem decodeWindow_encode {i : Instr} (complete : i.wellFormed = true) : ∃ op operands, encode i = op :: operands ∧
    ∀ rest, decodeWindow op ((operands ++ rest).getD 0 0#8) ((operands ++ rest).getD 1 0#8) = i := by
  cases i
  case prefixCb => cases complete
  all_goals
    refine ⟨_, _, rfl, fun rest => ?_⟩
    simp only [List.cons_append, List.nil_append, List.getD_cons_zero, List.getD_cons_succ]
  any_goals rfl
  all_goals exact congrArg _ (mkWord_hi_lo _)

theorem decode_encode_append {i : Instr} (complete : i.wellFormed = true) (rest : List Byte) :
    decode (encode i ++ rest) = .ok (i, rest) := by
  obtain ⟨op, operands, bytes, row⟩ := decodeWindow_encode complete
  have length : operands.length + 1 = opLength op := by
    have := length_encode_decodeWindow op ((operands ++ []).getD 0 0#8) ((operands ++ []).getD 1 0#8)
    rwa [row [], bytes, List.length_cons] at this
  rw [bytes, List.cons_append, decode_of_length op _ (by rw [List.length_append]; omega), row rest, ← length,
    Nat.add_sub_cancel, List.drop_left]

/-! ## Every byte string decoded is an encoding -/

/-- The bytes of the selected instruction, then those after it, are the bytes read. -/
theorem encode_decodeWindow_append_drop (op : Byte) (rest : List Byte) (enough : opLength op ≤ rest.length + 1) :
    encode (decodeWindow op (rest.getD 0 0#8) (rest.getD 1 0#8)) ++ rest.drop (opLength op - 1) = op :: rest := by
  rw [encode_decodeWindow]
  rcases opLength_cases op with one | two | three
  · rw [one]
    rfl
  · rw [two] at enough ⊢
    obtain _ | ⟨b1, rest⟩ := rest
    · simp at enough
    · rfl
  · rw [three] at enough ⊢
    obtain _ | ⟨b1, _ | ⟨b2, rest⟩⟩ := rest
    · simp at enough
    · simp at enough
    · rfl

theorem encode_append_of_decode {bytes : List Byte} {i : Instr} {rest : List Byte}
    (h : decode bytes = .ok (i, rest)) : encode i ++ rest = bytes := by
  obtain _ | ⟨op, tail⟩ := bytes
  · cases h
  by_cases enough : opLength op ≤ tail.length + 1
  · rw [decode_of_length op tail enough] at h
    cases h
    exact encode_decodeWindow_append_drop op tail enough
  · rw [decode_of_short op tail (by omega)] at h
    split at h
    next cb =>
      cases h
      rw [cb]
      rfl
    next => cases h

end Sys2Proof.Machine

namespace Sys2Proof.Proofs

open Sys2Proof Sys2Proof.Machine

/-- Settles O2: the first byte selects the row and tells the length, which is that of the encoding. -/
theorem decodeOfEncode : Obligations.DecodeOfEncode :=
  fun _ rest complete => decode_encode_append complete rest

/-- Settles O3: the row is encoded by as many of the bytes as its first byte tells, or it is the lone byte `0xCB`. -/
theorem encodeOfDecode : Obligations.EncodeOfDecode :=
  fun _ _ _ h => encode_append_of_decode h

/-- Settles O1, each word by decoding it. -/
theorem decodesWordsOfTheSpec : Obligations.DecodesWordsOfTheSpec :=
  ⟨rfl, rfl, rfl, rfl, rfl, rfl, rfl, rfl, rfl, rfl, rfl, rfl, rfl⟩

end Sys2Proof.Proofs
end

section
/-! What a step does at a fetch, by what the bytes at `PC` decode to: with nothing pending, with the halt quirk and with a
delayed `EI` (30_encoding.md R144 to R147, 60_exceptions.md R400, R401); and the other values of the parameters that
the model's log entries 4 to 6 describe. -/

namespace Sys2Proof.Machine

/-! ## The instruction fetched -/

theorem eq_decodeWindow_of_decode_three {op b1 b2 : Byte} {i : Instr} {rest : List Byte}
    (h : decode [op, b1, b2] = .ok (i, rest)) : i = decodeWindow op b1 b2 := by
  rw [decode_three] at h
  cases h
  rfl

theorem length_encode_of_decode_three {op b1 b2 : Byte} {i : Instr} {rest : List Byte}
    (h : decode [op, b1, b2] = .ok (i, rest)) : (encode i).length = opLength op := by
  rw [eq_decodeWindow_of_decode_three h, length_encode_decodeWindow]

/-- What the three bytes at a fetch decode to is what executes, past its own bytes. -/
theorem executeOne_of_decode {s : State} {i : Instr} {rest : List Byte} (h : decode (fetchBytes s) = .ok (i, rest)) :
    executeOne s = exec i (fetched s (encode i).length) := by
  rw [executeOne, length_encode_of_decode_three h, eq_decodeWindow_of_decode_three h]
  rfl

/-- The bytes at a fetch depend neither on the tick counter nor on a delayed `EI`. -/
theorem fetchBytes_commitEi_countTick (s : State) : fetchBytes (commitEi (countTick s)) = fetchBytes s := by
  unfold commitEi
  split <;> rfl

theorem step_of_decode {s : State} {i : Instr} {rest : List Byte} (h : AtFetch s)
    (hdecode : decode (fetchBytes s) = .ok (i, rest)) :
    step s = afterCpu (exec i (fetched (commitEi (countTick s)) (encode i).length)) := by
  rw [step_of_atFetch h, executeOne_of_decode (by rwa [fetchBytes_commitEi_countTick])]

/-! ## The program counter after a fetch (R145, R146) -/

theorem fetchNext_of_noQuirk {s : State} (noQuirk : s.cpu.haltBug = false) : fetchNext s = s.cpu.pc + 1#16 := by
  simp [fetchNext, noQuirk]

theorem fetchNext_of_quirk {s : State} (quirk : s.cpu.haltBug = true) : fetchNext s = s.cpu.pc := by
  simp [fetchNext, quirk]

theorem fetchBytes_of_noQuirk {s : State} (noQuirk : s.cpu.haltBug = false) :
    fetchBytes s = [busRead s s.cpu.pc, busRead s (s.cpu.pc + 1#16), busRead s (s.cpu.pc + 2#16)] := by
  rw [fetchBytes, fetchNext_of_noQuirk noQuirk, BitVec.add_assoc]
  rfl

theorem fetchBytes_of_quirk {s : State} (quirk : s.cpu.haltBug = true) :
    fetchBytes s = [busRead s s.cpu.pc, busRead s s.cpu.pc, busRead s (s.cpu.pc + 1#16)] := by
  rw [fetchBytes, fetchNext_of_quirk quirk]

/-- Without the quirk, `PC` moves past all the bytes of the instruction. -/
theorem fetched_of_noQuirk {s : State} (noQuirk : s.cpu.haltBug = false) {len : Nat} (hlen : 0 < len) :
    fetched s len = { s with cpu.pc := s.cpu.pc + BitVec.ofNat 16 len } := by
  have past : s.cpu.pc + 1#16 + BitVec.ofNat 16 (len - 1) = s.cpu.pc + BitVec.ofNat 16 len := by
    rw [BitVec.add_assoc, ← BitVec.ofNat_add, Nat.add_sub_cancel' hlen]
  rw [fetched, fetchNext_of_noQuirk noQuirk, past, ← noQuirk]

theorem length_pos_of_decode_three {op b1 b2 : Byte} {i : Instr} {rest : List Byte}
    (h : decode [op, b1, b2] = .ok (i, rest)) : 0 < (encode i).length := by
  rw [length_encode_of_decode_three h]
  rcases opLength_cases op with n | n | n <;> simp [n]

/-- A step at a fetch without the quirk, a delayed `EI` taken into account. -/
theorem step_of_decode_noQuirk {s : State} {i : Instr} {rest : List Byte} (h : AtFetch s)
    (noQuirk : s.cpu.haltBug = false)
    (hdecode : decode [busRead s s.cpu.pc, busRead s (s.cpu.pc + 1#16), busRead s (s.cpu.pc + 2#16)] = .ok (i, rest)) :
    step s = afterCpu (exec i
      { commitEi (countTick s) with cpu.pc := s.cpu.pc + BitVec.ofNat 16 (encode i).length }) := by
  have kept : (commitEi (countTick s)).cpu.haltBug = false ∧ (commitEi (countTick s)).cpu.pc = s.cpu.pc := by
    unfold commitEi
    split <;> exact ⟨noQuirk, rfl⟩
  rw [step_of_decode h ((fetchBytes_of_noQuirk noQuirk).symm ▸ hdecode),
    fetched_of_noQuirk kept.1 (length_pos_of_decode_three hdecode), kept.2]

theorem commitEi_of_none {s : State} (none : s.cpu.eiPending = false) : commitEi s = s := by
  simp [commitEi, none]

theorem commitEi_of_pending {s : State} (pending : s.cpu.eiPending = true) :
    commitEi s = { s with cpu.ime := true, cpu.eiPending := false } := by
  simp [commitEi, pending]

/-! ## The other values of the parameters (log entries 4, 5 and 6) -/

theorem exec_ei_one {s : State} (h : s.cfg.eiDelay = .one) :
    exec .ei s = finish 4 { s with cpu.eiPending := true } := by
  show opEi s = _
  rw [opEi, h]

/-- The two instructions write the same flags; what they write next holds none. -/
theorem flags_of_spAdd {i : Instr} {e : Byte} (h : i = .addSpE8 e ∨ i = .ldHlSpE8 e) (s : State) :
    ∃ t, exec i s = .next t ∧ t.cpu.f = (spAddFlags s.cfg.spAddFlags s.cpu.sp e).pack := by
  rcases h with rfl | rfl
  · exact ⟨_, rfl, rfl⟩
  · exact ⟨_, rfl, rfl⟩

theorem setButton_cpu_of_wake {s : State} {x : Button} (wake : s.cfg.stopWake = .onButtonPress)
    (up : s.bus.buttons.level x = false) : (setButton s x true).cpu = { s.cpu with stopped := false } := by
  simp [setButton, up, wakeStopped, wake]

end Sys2Proof.Machine

namespace Sys2Proof.Proofs

open Sys2Proof Sys2Proof.Machine

/-- Settles O5: nothing is committed before the fetch. -/
theorem stepRunsDecodedInstruction : Obligations.StepRunsDecodedInstruction := by
  intro s i rest h noQuirk noEi hdecode
  rw [step_of_decode_noQuirk h noQuirk hdecode, commitEi_of_none (s := countTick s) noEi]
  rfl

/-- Settles O6: the opcode's address is also that of the first byte after it. -/
theorem haltQuirkRereadsByte : Obligations.HaltQuirkRereadsByte := by
  intro s i rest h quirk noEi hdecode
  rw [step_of_decode h ((fetchBytes_of_quirk quirk).symm ▸ hdecode), commitEi_of_none (s := countTick s) noEi, fetched,
    fetchNext_of_quirk (s := countTick s) quirk]
  rfl

/-- Settles O12, parameter by parameter. -/
theorem otherParameterValues : Obligations.OtherParameterValues := by
  refine ⟨fun s delay => ?_, fun s i rest h noQuirk pending hdecode => ?_, fun s e i wide row => ?_,
    fun s x wake up => setButton_cpu_of_wake wake up⟩
  · refine ⟨_, exec_ei_one delay, rfl, rfl, fun r _ => ?_, rfl, rfl, rfl, rfl, rfl, rfl,
      keptOutside_of_eq rfl rfl rfl rfl, rfl⟩
    cases r <;> rfl
  · rw [step_of_decode_noQuirk h noQuirk hdecode, commitEi_of_pending (s := countTick s) pending]
    rfl
  · obtain ⟨t, ht, flags⟩ := flags_of_spAdd row s
    refine ⟨t, ht, ?_⟩
    rw [flags, wide, ← sext16_eq_signed16]
    exact flagsAre_addHlFlags s.cpu.sp (sext16 e) false

end Sys2Proof.Proofs
end

section
/-! A step in its two halves, the CPU's and that of the pixel processor and the timer; and the statements that hold by
what neither half reaches: the cartridge, the place in the frame, the tick counter. -/

namespace Sys2Proof.Machine

/-! ## A step in its two halves (60_exceptions.md R400) -/

/-- The machine after the CPU's half, then a dot of the pixel processor and what the requests and the timer change. -/
theorem step_halves {s t : State} (h : step s = .next t) : ∃ u div tima iflag, Ticked (countTick s) u ∧
    t = { u with
      ppu := u.ppu.dotWork.advance, bus.div := div, bus.tima := tima, bus.iflag := iflag } := by
  obtain ⟨u, hu, -, ticked⟩ := step_cases s
  obtain ⟨f, dot⟩ := ppuDot_eq u
  obtain ⟨div, tima, iflag, timer⟩ := timerTick_eq (ppuDot u)
  refine ⟨u, div, tima, iflag, ticked, ?_⟩
  rw [hu, timer, dot] at h
  cases h
  rfl

theorem step_next (s : State) : ∃ t, step s = .next t := by
  obtain ⟨u, hu, -⟩ := step_cases s
  exact ⟨_, hu⟩

theorem step_tick {s t : State} (h : step s = .next t) : t.bus.tick = s.bus.tick + 1 := by
  obtain ⟨u, div, tima, iflag, ticked, rfl⟩ := step_halves h
  exact ticked.keeps.tick

theorem step_cfg {s t : State} (h : step s = .next t) : t.cfg = s.cfg := by
  obtain ⟨u, div, tima, iflag, ticked, rfl⟩ := step_halves h
  exact ticked.keeps.cfg

/-! ## The place in the frame (R423, R426) -/

theorem Ppu.advance_place {p : Ppu} (line : p.ly.toNat ≤ 153) (dot : p.dot < 456) :
    456 * p.advance.ly.toNat + p.advance.dot = (456 * p.ly.toNat + p.dot + 1) % 70224 ∧
      p.advance.dot < 456 ∧ p.advance.ly.toNat ≤ 153 := by
  rcases p.advance_cases with ⟨last, h⟩ | ⟨inside, h⟩
  · rw [h]
    simp only [nextLine_toNat p.ly line]
    split_ifs <;> omega
  · rw [h]
    simp only
    omega

/-- A dot moves the scan by its counters alone. -/
theorem Ppu.dotWork_advance_place {p : Ppu} (line : p.ly.toNat ≤ 153) (dot : p.dot < 456) :
    456 * p.dotWork.advance.ly.toNat + p.dotWork.advance.dot = (456 * p.ly.toNat + p.dot + 1) % 70224 ∧
      p.dotWork.advance.dot < 456 ∧ p.dotWork.advance.ly.toNat ≤ 153 := by
  obtain ⟨sameLine, sameDot, -⟩ := p.dotWork_place
  rw [← sameLine, ← sameDot]
  exact Ppu.advance_place (by rwa [sameLine]) (by rwa [sameDot])

end Sys2Proof.Machine

namespace Sys2Proof.Proofs

open Sys2Proof Sys2Proof.Machine

/-- Settles O45: no CPU tick reaches these, and neither does the rest of a step. -/
theorem cartridgeIsFixed : Obligations.CartridgeIsFixed := by
  intro s t h
  obtain ⟨u, div, tima, iflag, ticked, rfl⟩ := step_halves h
  obtain ⟨keeps, -, -⟩ := ticked
  exact ⟨keeps.rom, keeps.romBanks, keeps.ramBanks, keeps.variant, keeps.cfg⟩

/-- Settles O37: each phase of a step answers. -/
theorem stepAlwaysAnswers : Obligations.StepAlwaysAnswers := by
  intro s
  obtain ⟨t, h⟩ := step_next s
  exact ⟨t, h, step_tick h, step_cfg h⟩

/-- Settles O47: the CPU does not move the scan. -/
theorem scanAdvances : Obligations.ScanAdvances := by
  intro s t dot line h
  obtain ⟨u, div, tima, iflag, ticked, rfl⟩ := step_halves h
  have sameLine : u.ppu.ly = s.ppu.ly := ticked.keeps.ly
  have sameDot : u.ppu.dot = s.ppu.dot := ticked.keeps.dot
  rw [← sameDot, ← sameLine]
  exact Ppu.dotWork_advance_place (sameLine ▸ line) (sameDot ▸ dot)

end Sys2Proof.Proofs
end

section
/-! The ranges of the scan and the places of the modes through each part of a dot and through a step (10_state.md R52, R57 to
R59, 60_exceptions.md R424 to R436). -/

namespace Sys2Proof.Machine

/-! ## What a bus write cannot reach -/

section Keeps

variable {s t : State} (keeps : StoreKeeps s t)

include keeps

theorem StoreKeeps.scanInv (h : ScanInv s.ppu) : ScanInv t.ppu where
  line := keeps.ly ▸ h.line
  dot := keeps.dot ▸ h.dot
  budget := keeps.frameBudget ▸ h.budget
  column := keeps.col ▸ h.column
  drawing := keeps.mode ▸ keeps.col ▸ h.drawing
  discard := keeps.discard ▸ h.discard
  sprites := keeps.lineSprites ▸ h.sprites
  spriteIndex := keeps.lineSprites ▸ h.spriteIndex
  phase := keeps.ph ▸ h.phase
  row := keeps.frow ▸ h.row
  queue := keeps.queue ▸ h.queue

theorem StoreKeeps.modeInv (h : ModeInv s.ppu) : ModeInv t.ppu where
  search := keeps.ly ▸ keeps.dot ▸ keeps.mode ▸ h.search
  drawOrBlank := keeps.ly ▸ keeps.dot ▸ keeps.mode ▸ h.drawOrBlank
  vblank := keeps.ly ▸ keeps.dot ▸ keeps.mode ▸ h.vblank

theorem StoreKeeps.drawInv (h : DrawInv s.ppu) : DrawInv t.ppu := by
  have left : t.ppu.dotsLeft = s.ppu.dotsLeft := by
    simp only [Ppu.dotsLeft, Ppu.popsLeft, keeps.col, keeps.discard, keeps.queue, keeps.ph]
  obtain ⟨inStep, inTime⟩ := h
  constructor
  · rwa [keeps.ly, keeps.mode, keeps.dot, keeps.queue, keeps.ph]
  · rwa [keeps.ly, keeps.mode, keeps.dot, keeps.winActive, left]

end Keeps

/-! ## The parts of a drawing dot (R428 to R434) -/

/-- The window and the sprites change neither the mode, the column, the framebuffer nor the line. -/
theorem Ppu.spriteTest_windowTest_keeps (p : Ppu) : let q := p.windowTest.spriteTest
    q.mode = p.mode ∧ q.col = p.col ∧ q.fb = p.fb ∧ q.ly = p.ly := by
  obtain ⟨q, sprite, -⟩ := p.windowTest.spriteTest_eq
  rw [sprite]
  rcases p.windowTest_cases with window | ⟨-, window⟩
  all_goals
    rw [window]
    exact ⟨rfl, rfl, rfl, rfl⟩

/-- Neither does the fetcher: only the pop is left. -/
theorem Ppu.fetcherStep_keeps (p : Ppu) : let q := p.windowTest.spriteTest.fetcherStep
    q.mode = p.mode ∧ q.col = p.col ∧ q.fb = p.fb ∧ q.ly = p.ly := by
  have before := p.spriteTest_windowTest_keeps
  rcases Ppu.fetcherStep_cases p.windowTest.spriteTest with ⟨-, -, e⟩ | ⟨-, -, e⟩ | ⟨-, _, _, _, _, -, e⟩
  all_goals
    rw [e]
    exact before

theorem ScanInv.windowTest {p : Ppu} (h : ScanInv p) : ScanInv p.windowTest := by
  rcases p.windowTest_cases with e | ⟨-, e⟩
  · rwa [e]
  · rw [e]
    exact { h with discard := Nat.zero_le _, phase := Nat.zero_le _, queue := Nat.zero_le _ }

theorem ScanInv.spriteTest {p : Ppu} (h : ScanInv p) : ScanInv p.spriteTest := by
  obtain ⟨q, e, length⟩ := p.spriteTest_eq
  rw [e]
  exact { h with queue := length.trans_le h.queue }

theorem ScanInv.fetcherStep {p : Ppu} (h : ScanInv p) : ScanInv p.fetcherStep := by
  rcases p.fetcherStep_cases with ⟨-, -, e⟩ | ⟨-, -, e⟩ | ⟨notLast, frow, tileId, lo, hi, row, e⟩
  · rw [e]
    exact { h with phase := Nat.zero_le _, queue := p.fetchedRow_length.le }
  · rwa [e]
  · rw [e]
    exact { h with phase := Nat.lt_of_le_of_ne h.phase notLast, row := row h.row }

/-- A pop moves the column on in mode 3 only, and leaves that mode at column 160. -/
theorem ScanInv.popPixel {p : Ppu} (h : ScanInv p) (draw : p.mode = .draw) : ScanInv p.popPixel := by
  have column := h.drawing draw
  rcases p.popPixel_cases with ⟨-, e⟩ | ⟨x, q, hq, -, e⟩ | ⟨x, q, fb, hq, -, -, e⟩
  · rwa [e]
  · have queue := h.queue
    rw [hq, List.length_cons] at queue
    rw [e]
    exact { h with queue := by show q.length ≤ 8; omega, discard := (Nat.sub_le _ _).trans h.discard }
  · have queue := h.queue
    rw [hq, List.length_cons] at queue
    rw [e]
    refine { h with queue := by show q.length ≤ 8; omega, column := column, drawing := fun still => ?_ }
    have notLast : p.col + 1 ≠ 160 := by
      intro last
      rw [if_pos last] at still
      cases still
    exact Nat.lt_of_le_of_ne column notLast

theorem ScanInv.drawDot {p : Ppu} (h : ScanInv p) (draw : p.mode = .draw) : ScanInv p.drawDot := by
  obtain ⟨mode, -⟩ := p.fetcherStep_keeps
  exact h.windowTest.spriteTest.fetcherStep.popPixel (mode.trans draw)

/-! ## The parts of a dot (R424 to R427) -/

theorem ScanInv.reload {p : Ppu} (h : ScanInv p) : ScanInv p.reload := by
  rw [p.reload_eq]
  refine { h with budget := ?_ }
  have := h.budget
  show (if p.frameBudget = 0 then 70224 else p.frameBudget) ≤ 70224
  split_ifs <;> omega

theorem ScanInv.enterMode {p : Ppu} (h : ScanInv p) : ScanInv p.enterMode := by
  rcases p.enterMode_cases with ⟨-, -, e⟩ | ⟨-, -, e⟩ | ⟨-, -, e⟩ | e
  · obtain ⟨sprites, spriteIndex⟩ := Ppu.oamSearch_bounds { p with mode := .search }
    rw [e]
    exact { h with drawing := nofun, sprites := sprites, spriteIndex := spriteIndex }
  · have discard : p.scx.toNat % 8 ≤ 7 := by omega
    rw [e]
    exact { h with
      column := Nat.zero_le _, drawing := fun _ => Nat.zero_lt_succ _, discard := discard, phase := Nat.zero_le _,
      queue := Nat.zero_le _ }
  · rw [e]
    exact { h with drawing := nofun }
  · rwa [e]

theorem ScanInv.drawPhase {p : Ppu} (h : ScanInv p) : ScanInv p.drawPhase := by
  unfold Ppu.drawPhase
  split
  next draw => exact h.drawDot draw.2
  next => exact h

theorem ScanInv.dotWork {p : Ppu} (h : ScanInv p) : ScanInv p.dotWork := { h.reload.enterMode.drawPhase with }

theorem ScanInv.advance {p : Ppu} (h : ScanInv p) : ScanInv p.advance := by
  have budget : p.frameBudget - 1 ≤ 70224 := (Nat.sub_le _ _).trans h.budget
  rcases p.advance_cases with ⟨-, e⟩ | ⟨inside, e⟩
  · have line : (nextLine p.ly).toNat ≤ 153 := by
      have := h.line
      rw [nextLine_toNat p.ly h.line]
      split_ifs <;> omega
    rw [e]
    exact { h with line := line, dot := Nat.zero_lt_succ _, budget := budget, phase := Nat.zero_le _ }
  · rw [e]
    exact { h with dot := Nat.lt_of_le_of_ne h.dot inside, budget := budget }

/-! ## The mode after a dot's work (R424 to R436) -/

/-- Drawing ends in mode 3 or in mode 0. -/
theorem Ppu.drawDot_mode {p : Ppu} (draw : p.mode = .draw) : p.drawDot.mode = .draw ∨ p.drawDot.mode = .hblank := by
  obtain ⟨mode, -⟩ := p.fetcherStep_keeps
  have before := mode.trans draw
  unfold Ppu.drawDot
  rcases Ppu.popPixel_cases p.windowTest.spriteTest.fetcherStep with ⟨-, e⟩ | ⟨_, _, -, -, e⟩ | ⟨_, _, _, -, -, -, e⟩
  · rw [e]
    exact .inl before
  · rw [e]
    exact .inl before
  · rw [e]
    simp only [before]
    split_ifs
    · exact .inr rfl
    · exact .inl rfl

theorem Ppu.drawPhase_of_not_draw {p : Ppu} (notDraw : p.mode ≠ .draw) : p.drawPhase = p :=
  if_neg fun h => notDraw h.2

/-- Drawing keeps every mode but mode 3, and leaves that for mode 0 only. -/
theorem Ppu.drawPhase_mode (p : Ppu) :
    p.drawPhase.mode = p.mode ∨ (p.mode = .draw ∧ p.drawPhase.mode = .hblank) := by
  by_cases h : p.ly.toNat < 144 ∧ p.mode = .draw
  · rw [Ppu.drawPhase, if_pos h]
    exact (Ppu.drawDot_mode h.2).imp (·.trans h.2.symm) (⟨h.2, ·⟩)
  · rw [Ppu.drawPhase, if_neg h]
    exact .inl rfl

/-- The mode that the work of a dot leaves: 2 in the dots 0 to 79 of a visible line, 3 or 0 in its other dots, 1 on the
lines from 144 on. -/
structure ModeAt (ly dot : Nat) (m : PpuMode) : Prop where
  search : ly < 144 → dot < 80 → m = .search
  drawOrBlank : ly < 144 → 80 ≤ dot → m = .draw ∨ m = .hblank
  vblank : 144 ≤ ly → m = .vblank

/-- A dot that enters a mode leaves that mode, or mode 0 where it enters mode 3; every other dot goes on in the mode of
the dot before. -/
theorem ModeInv.enterMode_drawPhase {p : Ppu} (h : ModeInv p) :
    ModeAt p.ly.toNat p.dot p.enterMode.drawPhase.mode := by
  have drawn := p.enterMode.drawPhase_mode
  revert drawn
  unfold Ppu.enterMode
  split_ifs with visible dot0 dot80 first
  · rintro (e | ⟨notSearch, -⟩)
    · exact ⟨fun _ _ => e, fun _ _ => by omega, fun _ => by omega⟩
    · cases notSearch
  · rintro (e | ⟨-, e⟩)
    · exact ⟨fun _ _ => by omega, fun _ _ => .inl e, fun _ => by omega⟩
    · exact ⟨fun _ _ => by omega, fun _ _ => .inr e, fun _ => by omega⟩
  · rintro (e | ⟨draw, e⟩)
    · rw [e]
      exact ⟨fun _ _ => h.search visible (by omega) (by omega), fun _ _ => h.drawOrBlank visible (by omega),
        fun _ => by omega⟩
    · refine ⟨fun _ _ => ?_, fun _ _ => .inr e, fun _ => by omega⟩
      rw [h.search visible (by omega) (by omega)] at draw
      cases draw
  · rintro (e | ⟨notVblank, -⟩)
    · exact ⟨fun _ _ => by omega, fun _ _ => by omega, fun _ => e⟩
    · cases notVblank
  · have vblank : 144 ≤ p.ly.toNat → p.mode = .vblank := fun hidden => h.vblank hidden (by omega)
    rintro (e | ⟨draw, -⟩)
    · exact ⟨fun _ _ => by omega, fun _ _ => by omega, fun hidden => e.trans (vblank hidden)⟩
    · rw [vblank (by omega)] at draw
      cases draw

/-- The counters move on to the place whose mode was just left. -/
theorem ModeInv.of_modeAt {p : Ppu} (h : ModeAt p.ly.toNat p.dot p.mode) (scan : ScanInv p) : ModeInv p.advance := by
  obtain ⟨search, drawOrBlank, vblank⟩ := h
  rcases p.advance_cases with ⟨last, e⟩ | ⟨inside, e⟩
  · have line := nextLine_toNat p.ly scan.line
    rw [e]
    refine ⟨fun _ first => (by cases first), fun _ first => (by cases first), fun hidden notFirst => ?_⟩
    change 144 ≤ (nextLine p.ly).toNat at hidden
    change (nextLine p.ly).toNat = 144 → 1 ≤ 0 at notFirst
    rw [line] at hidden notFirst
    split_ifs at hidden notFirst with h153
    · omega
    · exact vblank (by omega)
  · rw [e]
    exact ⟨fun visible _ h => search visible h, fun visible h => drawOrBlank visible (Nat.le_of_succ_le_succ h),
      fun hidden _ => vblank hidden⟩

theorem ModeInv.reload {p : Ppu} (h : ModeInv p) : ModeInv p.reload := by
  rw [p.reload_eq]
  exact { h with }

theorem ModeInv.dot {p : Ppu} (scan : ScanInv p) (h : ModeInv p) : ModeInv p.dotWork.advance := by
  refine ModeInv.of_modeAt ?_ scan.dotWork
  obtain ⟨sameLine, sameDot, -⟩ := p.dotWork_place
  have reload : p.reload.ly = p.ly ∧ p.reload.dot = p.dot := by
    rw [p.reload_eq]
    exact ⟨rfl, rfl⟩
  rw [sameLine, sameDot, ← reload.1, ← reload.2]
  exact h.reload.enterMode_drawPhase

end Sys2Proof.Machine
end

section
/-! The pace of drawing: each drawing dot is one of the dots left, whatever the program writes meanwhile, so mode 3 ends in
time (60_exceptions.md R427 to R435). -/

namespace Sys2Proof.Machine

/-! ## The pace, in numbers (R432, R434) -/

/-- `Ppu.dotsLeft` by the pops left, the length of the queue and the phase of the fetcher. -/
def pace (pops len ph : Nat) : Nat :=
  pops + (pops - len + 7) / 8 + (if len = 0 then 7 - ph else 0) - (if len = 0 ∧ ph = 8 then 1 else 0)

theorem Ppu.dotsLeft_eq_pace (p : Ppu) : p.dotsLeft = pace p.popsLeft p.queue.length p.ph := by
  simp only [Ppu.dotsLeft, pace, List.length_eq_zero_iff]

/-- A dot of an empty queue brings the fetch on by one phase. -/
theorem pace_fetch {pops ph : Nat} (some : 0 < pops) (phase : ph < 8) : pace pops 0 (ph + 1) + 1 ≤ pace pops 0 ph := by
  unfold pace
  split_ifs <;> omega

/-- At phase 8 a row of eight is pushed, and its first pixel popped. -/
theorem pace_refill {pops : Nat} (some : 0 < pops) : pace (pops - 1) 7 0 + 1 ≤ pace pops 0 8 := by
  show pops - 1 + (pops - 1 - 7 + 7) / 8 + 0 - 0 + 1 ≤ pops + (pops - 0 + 7) / 8 + 0 - 1
  omega

/-- A dot of a queue with pixels is a pop; the fetcher is at phase 7 when the last goes. -/
theorem pace_pop {pops len ph : Nat} (some : 0 < pops) (inStep : len + 1 + ph = 7) :
    pace (pops - 1) len (ph + 1) + 1 ≤ pace pops (len + 1) ph := by
  unfold pace
  split_ifs <;> omega

/-- A window trigger restarts the fetch, and drops pops; nine dots are enough for it. -/
theorem pace_restart {pops fewer len ph : Nat} (hpops : fewer ≤ pops) (hlen : len ≤ 8) :
    pace fewer 0 0 ≤ pace pops len ph + 9 := by
  unfold pace
  split_ifs <;> omega

/-! ## The fetcher and the pop in one dot -/

/-- While the queue holds pixels, the fetcher is as far on as pixels have been popped. -/
def Ppu.InStep (p : Ppu) : Prop := p.queue ≠ [] → p.queue.length + p.ph = 7

theorem Ppu.popsLeft_pos {p : Ppu} (column : p.col < 160) : 0 < p.popsLeft := by
  unfold Ppu.popsLeft
  omega

theorem Ppu.popPixel_of_empty {p : Ppu} (empty : p.queue = []) : p.popPixel = p := by
  simp only [Ppu.popPixel, empty]

/-- A pop is one of the pops left, discarded or not. -/
theorem Ppu.popPixel_of_cons {p : Ppu} {x : Pixel} {q : List Pixel} (hq : p.queue = x :: q) (column : p.col < 160) :
    p.popPixel.queue = q ∧ p.popPixel.ph = p.ph ∧ p.popPixel.winActive = p.winActive ∧
      p.popPixel.popsLeft = p.popsLeft - 1 := by
  rcases p.popPixel_cases with ⟨empty, -⟩ | ⟨x', q', hq', discard, e⟩ | ⟨x', q', fb, hq', discard, -, e⟩
  · rw [hq] at empty
    cases empty
  all_goals
    obtain ⟨-, rfl⟩ : x = x' ∧ q = q' := by simpa using hq.symm.trans hq'
    rw [e]
    refine ⟨rfl, rfl, rfl, ?_⟩
    simp only [Ppu.popsLeft]
    omega

/-- Away from phase 8 the fetcher goes on by one phase, and leaves the queue. -/
theorem Ppu.fetcherStep_of_not_last {p : Ppu} (notLast : p.ph ≠ 8) :
    p.fetcherStep.queue = p.queue ∧ p.fetcherStep.ph = p.ph + 1 ∧ p.fetcherStep.winActive = p.winActive ∧
      p.fetcherStep.popsLeft = p.popsLeft ∧ p.fetcherStep.col = p.col := by
  rcases p.fetcherStep_cases with ⟨last, -⟩ | ⟨last, -⟩ | ⟨-, _, _, _, _, -, e⟩
  · exact absurd last notLast
  · exact absurd last notLast
  · rw [e]
    exact ⟨rfl, rfl, rfl, rfl, rfl⟩

/-- At phase 8 the fetcher fills an empty queue and starts again. -/
theorem Ppu.fetcherStep_of_last {p : Ppu} (last : p.ph = 8) (empty : p.queue = []) :
    (∃ x q, p.fetcherStep.queue = x :: q ∧ q.length = 7) ∧ p.fetcherStep.ph = 0 ∧
      p.fetcherStep.winActive = p.winActive ∧ p.fetcherStep.popsLeft = p.popsLeft ∧ p.fetcherStep.col = p.col := by
  rcases p.fetcherStep_cases with ⟨-, -, e⟩ | ⟨-, notEmpty, -⟩ | ⟨notLast, -⟩
  · obtain ⟨x, q, row⟩ : ∃ x q, p.fetchedRow = x :: q := List.exists_cons_of_length_eq_add_one p.fetchedRow_length
    have seven : q.length + 1 = 8 := by rw [← p.fetchedRow_length, row, List.length_cons]
    rw [e]
    exact ⟨⟨x, q, row, Nat.succ.inj seven⟩, rfl, rfl, rfl, rfl⟩
  · exact absurd empty notEmpty
  · exact absurd last notLast

/-- One dot of the fetcher and the pop keeps them in step, and is one of the dots left. -/
theorem Ppu.fetch_pop_pace {p : Ppu} (column : p.col < 160) (phase : p.ph ≤ 8) (inStep : p.InStep) :
    let t := p.fetcherStep.popPixel
    t.InStep ∧ t.dotsLeft + 1 ≤ p.dotsLeft ∧ t.winActive = p.winActive := by
  intro t
  have some := Ppu.popsLeft_pos column
  rw [t.dotsLeft_eq_pace, p.dotsLeft_eq_pace]
  cases hq : p.queue with
  | nil =>
    by_cases last : p.ph = 8
    · obtain ⟨⟨x, q, queue, seven⟩, ph, win, pops, col⟩ := Ppu.fetcherStep_of_last last hq
      obtain ⟨queue', ph', win', pops'⟩ := Ppu.popPixel_of_cons queue (col.trans_lt column)
      refine ⟨fun _ => ?_, ?_, win'.trans win⟩
      · rw [queue', ph', ph, seven]
      · rw [queue', ph', pops', ph, pops, seven, last]
        exact pace_refill some
    · obtain ⟨queue, ph, win, pops, -⟩ := Ppu.fetcherStep_of_not_last last
      have noPop : t = p.fetcherStep := Ppu.popPixel_of_empty (queue.trans hq)
      rw [noPop, queue, ph, pops, hq]
      exact ⟨fun notEmpty => absurd (queue.trans hq) notEmpty, pace_fetch some (by omega), win⟩
  | cons x q =>
    have step : q.length + 1 + p.ph = 7 := by
      have := inStep (by rw [hq]; exact List.cons_ne_nil x q)
      rwa [hq, List.length_cons] at this
    obtain ⟨queue, ph, win, pops, col⟩ := Ppu.fetcherStep_of_not_last (p := p) (by omega)
    obtain ⟨queue', ph', win', pops'⟩ := Ppu.popPixel_of_cons (queue.trans hq) (col.trans_lt column)
    refine ⟨fun _ => ?_, ?_, win'.trans win⟩
    · rw [queue', ph', ph]
      omega
    · rw [queue', ph', pops', ph, pops, List.length_cons]
      exact pace_pop some step

/-! ## A whole drawing dot (R428) -/

/-- The dots left with those kept for a window trigger still to come. -/
def Ppu.dotsKept (p : Ppu) : Nat := p.dotsLeft + (if p.winActive then 0 else 9)

/-- A window trigger uses up the dots kept for it. -/
theorem Ppu.windowTest_pace {p : Ppu} (length : p.queue.length ≤ 8) (inStep : p.InStep) :
    p.windowTest.InStep ∧ p.windowTest.dotsKept ≤ p.dotsKept := by
  rcases p.windowTest_cases with e | ⟨inactive, e⟩
  · rw [e]
    exact ⟨inStep, le_rfl⟩
  · refine ⟨?_, ?_⟩
    · rw [e]
      exact fun notEmpty => absurd rfl notEmpty
    · have pops : p.windowTest.popsLeft ≤ p.popsLeft := by
        rw [e]
        exact Nat.le_add_right _ _
      have pace := pace_restart (ph := p.ph) pops length
      have left : p.windowTest.dotsLeft = _ := p.windowTest.dotsLeft_eq_pace
      have active : p.windowTest.winActive = true ∧ p.windowTest.queue = [] ∧ p.windowTest.ph = 0 := by
        rw [e]
        exact ⟨rfl, rfl, rfl⟩
      rw [active.2.1, active.2.2] at left
      rw [Ppu.dotsKept, Ppu.dotsKept, left, p.dotsLeft_eq_pace, active.1, inactive]
      exact pace

/-- Merging sprites does not change the number of pixels. -/
theorem Ppu.spriteTest_pace {p : Ppu} (inStep : p.InStep) :
    p.spriteTest.InStep ∧ p.spriteTest.dotsKept = p.dotsKept := by
  obtain ⟨q, e, length⟩ := p.spriteTest_eq
  have left : p.spriteTest.dotsLeft = p.dotsLeft := by
    rw [p.spriteTest.dotsLeft_eq_pace, p.dotsLeft_eq_pace, e]
    show pace p.popsLeft q.length p.ph = _
    rw [length]
  refine ⟨?_, ?_⟩
  · rw [e]
    intro notEmpty
    show q.length + p.ph = 7
    rw [length]
    refine inStep fun empty => notEmpty ?_
    exact List.length_eq_zero_iff.1 (by rw [length, empty]; rfl)
  · rw [Ppu.dotsKept, left, e]
    rfl

theorem Ppu.drawDot_pace {p : Ppu} (scan : ScanInv p) (draw : p.mode = .draw) (inStep : p.InStep) :
    p.drawDot.InStep ∧ p.drawDot.dotsKept + 1 ≤ p.dotsKept := by
  obtain ⟨window, windowKept⟩ := Ppu.windowTest_pace scan.queue inStep
  obtain ⟨sprite, spriteKept⟩ := Ppu.spriteTest_pace window
  obtain ⟨-, sameCol, -⟩ := p.spriteTest_windowTest_keeps
  obtain ⟨step, pace, win⟩ := Ppu.fetch_pop_pace (p := p.windowTest.spriteTest)
    (by rw [sameCol]; exact scan.drawing draw) scan.windowTest.spriteTest.phase sprite
  refine ⟨step, ?_⟩
  calc p.drawDot.dotsKept + 1
      = p.drawDot.dotsLeft + 1 + (if p.drawDot.winActive then 0 else 9) := Nat.add_right_comm _ _ _
    _ ≤ p.windowTest.spriteTest.dotsLeft + (if p.windowTest.spriteTest.winActive then 0 else 9) :=
      Nat.add_le_add pace (by rw [← win]; rfl)
    _ = p.windowTest.dotsKept := spriteKept
    _ ≤ p.dotsKept := windowKept

/-! ## The invariant of drawing (R435) -/

/-- Mode 3 starts with an empty queue: at most seven pixels to discard, 160 to write, 21 rows to fetch. -/
theorem Ppu.startDraw_pace (p : Ppu) : p.startDraw.InStep ∧ 80 + p.startDraw.dotsKept ≤ 284 := by
  have kept : p.startDraw.dotsKept = pace (160 - 0 + p.scx.toNat % 8) 0 0 + 9 := by
    rw [Ppu.dotsKept, Ppu.dotsLeft_eq_pace]
    rfl
  refine ⟨fun notEmpty => absurd rfl notEmpty, ?_⟩
  rw [kept, pace]
  split_ifs <;> omega

/-- What a dot of mode 3 draws from: the start of the drawing, or what the dot before left. -/
theorem DrawInv.enterMode_pace {p : Ppu} (h : DrawInv p) (visible : p.ly.toNat < 144) (late : 80 ≤ p.dot)
    (draw : p.enterMode.mode = .draw) : p.enterMode.InStep ∧ p.dot + p.enterMode.dotsKept ≤ 284 := by
  revert draw
  unfold Ppu.enterMode
  split_ifs with dot0 dot80
  · omega
  · rw [dot80]
    exact fun _ => Ppu.startDraw_pace _
  · intro draw
    have inTime := h.inTime visible draw (by omega)
    rw [Nat.add_assoc] at inTime
    exact ⟨h.inStep visible draw (by omega), inTime⟩

/-- The dot after mode 3 went on for one more is one nearer to its end. -/
theorem DrawInv.drawPhase_pace {p : Ppu} (scan : ScanInv p) (h : DrawInv p) (visible : p.ly.toNat < 144)
    (late : 80 ≤ p.dot) (draw : p.enterMode.drawPhase.mode = .draw) :
    p.enterMode.drawPhase.InStep ∧ p.dot + 1 + p.enterMode.drawPhase.dotsKept ≤ 284 := by
  have before : p.enterMode.mode = .draw := by
    rcases p.enterMode.drawPhase_mode with same | ⟨before, -⟩
    · exact same.symm.trans draw
    · exact before
  obtain ⟨-, sameLine, -⟩ := p.enterMode_keeps
  obtain ⟨inStep, inTime⟩ := h.enterMode_pace visible late before
  obtain ⟨step, pace⟩ := Ppu.drawDot_pace scan.enterMode before inStep
  rw [Ppu.drawPhase, if_pos ⟨by rwa [sameLine], before⟩]
  exact ⟨step, by omega⟩

/-- The counters move on to the dot for which the pace was just left. -/
theorem DrawInv.of_pace {p : Ppu} (h : p.ly.toNat < 144 → 80 ≤ p.dot → p.mode = .draw →
    p.InStep ∧ p.dot + 1 + p.dotsKept ≤ 284) : DrawInv p.advance := by
  rcases p.advance_cases with ⟨-, e⟩ | ⟨-, e⟩
  · rw [e]
    exact ⟨fun _ _ first => (by cases first), fun _ _ first => (by cases first)⟩
  · rw [e]
    refine ⟨fun visible draw late => ?_, fun visible draw late => ?_⟩
    · exact (h visible (Nat.le_of_succ_le_succ late) draw).1
    · have inTime := (h visible (Nat.le_of_succ_le_succ late) draw).2
      rwa [Ppu.dotsKept, ← Nat.add_assoc] at inTime

theorem DrawInv.reload {p : Ppu} (h : DrawInv p) : DrawInv p.reload := by
  rw [p.reload_eq]
  exact { h with }

theorem DrawInv.dot {p : Ppu} (scan : ScanInv p) (h : DrawInv p) : DrawInv p.dotWork.advance := by
  obtain ⟨sameLine, sameDot, -⟩ := p.dotWork_place
  have reload : p.reload.ly = p.ly ∧ p.reload.dot = p.dot := by
    rw [p.reload_eq]
    exact ⟨rfl, rfl⟩
  refine DrawInv.of_pace ?_
  rw [sameLine, sameDot, ← reload.1, ← reload.2]
  exact h.reload.drawPhase_pace scan.reload

/-- While pixels are left to be popped, so is a dot. -/
theorem Ppu.dotsLeft_pos {p : Ppu} (column : p.col < 160) : 0 < p.dotsLeft := by
  have some := Ppu.popsLeft_pos column
  rw [p.dotsLeft_eq_pace, pace]
  split_ifs <;> omega

/-- No dot is left for mode 3 at the index 284. -/
theorem DrawInv.blank {p : Ppu} (scan : ScanInv p) (modes : ModeInv p) (h : DrawInv p) (visible : p.ly.toNat < 144)
    (late : 284 ≤ p.dot) : p.mode = .hblank := by
  rcases modes.drawOrBlank visible (by omega) with draw | blank
  · have inTime := h.inTime visible draw (by omega)
    have left := Ppu.dotsLeft_pos (scan.drawing draw)
    omega
  · exact blank

end Sys2Proof.Machine

namespace Sys2Proof.Proofs

open Sys2Proof Sys2Proof.Machine

/-- Settles O53: the CPU's half leaves the scan alone, and the dot keeps the modes in place. -/
theorem modeSequence : Obligations.ModeSequence := by
  intro s t scan modes h
  obtain ⟨u, div, tima, iflag, ticked, rfl⟩ := step_halves h
  exact ModeInv.dot (ticked.keeps.scanInv scan) (ticked.keeps.modeInv modes)

/-- Settles O54: the CPU's half leaves the drawing alone, and the dot keeps its pace, which leaves no dot at the index 284. -/
theorem drawingEndsInTime : Obligations.DrawingEndsInTime := by
  refine ⟨fun s t scan modes draw h => ?_, fun p scan modes draw visible late => draw.blank scan modes visible late⟩
  obtain ⟨u, div, tima, iflag, ticked, rfl⟩ := step_halves h
  exact DrawInv.dot (ticked.keeps.scanInv scan) (ticked.keeps.drawInv draw)

end Sys2Proof.Proofs
end

section
/-! The invariant of the machine through a step, and right after power-up (10_state.md, 70_reset_and_hazards.md R460). -/

namespace Sys2Proof.Machine

/-! ## The memories through a dot (R60, R62) -/

/-- Drawing writes the framebuffer at a visible line and column only. -/
theorem Ppu.drawPhase_fb {p : Ppu} (scan : ScanInv p) (h : Cells.ok p.fb (160 * 144)) :
    Cells.ok p.drawPhase.fb (160 * 144) := by
  unfold Ppu.drawPhase
  split
  next draw =>
    obtain ⟨-, col, fb, ly⟩ := p.fetcherStep_keeps
    rw [← fb] at h
    unfold Ppu.drawDot
    rcases Ppu.popPixel_cases p.windowTest.spriteTest.fetcherStep with
      ⟨-, e⟩ | ⟨_, _, -, -, e⟩ | ⟨_, _, _, -, -, written, e⟩
    · rwa [e]
    · rwa [e]
    · rw [e]
      exact written (by rw [ly]; exact draw.1) (by rw [col]; exact scan.drawing draw.2) h
  next => exact h

/-- Only drawing reaches a memory of the pixel processor in a dot. -/
theorem Ppu.enterMode_mem (p : Ppu) :
    p.enterMode.vram = p.vram ∧ p.enterMode.oam = p.oam ∧ p.enterMode.fb = p.fb := by
  rcases p.enterMode_cases with ⟨-, -, e⟩ | ⟨-, -, e⟩ | ⟨-, -, e⟩ | e
  all_goals
    rw [e]
    exact ⟨rfl, rfl, rfl⟩

theorem Ppu.reload_mem (p : Ppu) : p.reload.vram = p.vram ∧ p.reload.oam = p.oam ∧ p.reload.fb = p.fb := by
  rw [p.reload_eq]
  exact ⟨rfl, rfl, rfl⟩

theorem Ppu.advance_mem (p : Ppu) : p.advance.vram = p.vram ∧ p.advance.oam = p.oam ∧ p.advance.fb = p.fb := by
  rcases p.advance_cases with ⟨-, e⟩ | ⟨-, e⟩
  all_goals
    rw [e]
    exact ⟨rfl, rfl, rfl⟩

theorem MemoryInv.dot {s : State} (scan : ScanInv s.ppu) (h : MemoryInv s) :
    MemoryInv { s with ppu := s.ppu.dotWork.advance } := by
  obtain ⟨vram, oam, fb⟩ := s.ppu.dotWork.advance_mem
  obtain ⟨vram', oam', fb'⟩ := s.ppu.reload.enterMode_mem
  obtain ⟨vram'', oam'', fb''⟩ := s.ppu.reload_mem
  have draw := s.ppu.reload.enterMode.drawPhase_keeps
  have fbOk := Ppu.drawPhase_fb scan.reload.enterMode (by rw [fb', fb'']; exact h.fb)
  have sameVram : s.ppu.dotWork.advance.vram = s.ppu.vram :=
    vram.trans (draw.vram.trans (vram'.trans vram''))
  have sameOam : s.ppu.dotWork.advance.oam = s.ppu.oam := oam.trans (draw.oam.trans (oam'.trans oam''))
  exact { h with
    vram := by rw [sameVram]; exact h.vram
    oam := by rw [sameOam]; exact h.oam
    fb := by rw [fb]; exact fbOk }

/-! ## The whole invariant -/

theorem State.Inv.step {s t : State} (h : s.Inv) (hstep : step s = .next t) : t.Inv := by
  obtain ⟨u, div, tima, iflag, ticked, rfl⟩ := step_halves hstep
  obtain ⟨cpu, memory, scan, cart⟩ := h
  have cpu' : CpuInv u := ticked.cpu { cpu with }
  have memory' : MemoryInv u := ticked.keeps.memory { memory with }
  have scan' : ScanInv u.ppu := ticked.keeps.scanInv scan
  exact ⟨{ cpu' with }, { memory'.dot scan' with }, scan'.dotWork.advance, ticked.keeps.cart cart⟩

/-! ## Power-up (R460, 60_exceptions.md R441) -/

theorem legal_spec : ResetRecord.spec.Legal := by
  constructor <;> decide

theorem cartInv_powerUp {r : ResetRecord} (legal : r.Legal) (variant : Variant) {romBanks : Nat} (banks : 2 ≤ romBanks)
    (ramBanks : Nat) (image xram : Memory) :
    CartInv { ctrl := variant.controller r.bank, romBanks, ramBanks, rom := image, xram } := by
  refine ⟨banks, fun latches h => ?_⟩
  cases variant
  case direct => cases h
  case banked =>
    cases h
    exact legal.bank5

theorem scanInv_reset {r : ResetRecord} (legal : r.Legal) (m : InitMem) : ScanInv (Ppu.reset r.ppu m) where
  line := Nat.le_of_lt (legal.line.trans (by decide))
  dot := legal.dot.trans_lt (by decide)
  budget := legal.budget
  column := legal.column
  drawing := legal.drawing
  discard := legal.discard
  sprites := legal.sprites
  spriteIndex := legal.spriteIndex
  phase := legal.phase
  row := legal.row
  queue := legal.queue

/-- At the first dot of a visible line no mode is due yet. -/
theorem modeInv_of_first {p : Ppu} (visible : p.ly.toNat < 144) (first : p.dot = 0) : ModeInv p :=
  ⟨fun _ _ _ => by omega, fun _ _ => by omega, fun _ _ => by omega⟩

theorem drawInv_of_first {p : Ppu} (first : p.dot = 0) : DrawInv p :=
  ⟨fun _ _ _ => by omega, fun _ _ _ => by omega⟩

theorem powerUp_inv {cfg : Config} {r : ResetRecord} {variant : Variant} {romBanks ramBanks : Nat} {image : Memory}
    {m : InitMem} (legal : r.Legal) (banks : 2 ≤ romBanks)
    (memory : MemoryInv (State.powerUp cfg r variant romBanks ramBanks image m)) :
    let s := State.powerUp cfg r variant romBanks ramBanks image m
    s.Inv ∧ ModeInv s.ppu ∧ DrawInv s.ppu := by
  have noDelayedEi : r.cpu.eiPending = true → cfg.eiDelay = .one := by
    rw [legal.noDelayedEi]
    exact nofun
  have cpu : CpuInv (State.powerUp cfg r variant romBanks ramBanks image m) :=
    ⟨legal.flagsLow, legal.waitBound, legal.haltBugMasked, noDelayedEi, legal.invalidIdle⟩
  exact ⟨⟨cpu, memory, scanInv_reset legal m, cartInv_powerUp legal variant banks ramBanks image m.xram⟩,
    modeInv_of_first legal.line legal.dot, drawInv_of_first legal.dot⟩

end Sys2Proof.Machine

namespace Sys2Proof.Proofs

open Sys2Proof Sys2Proof.Machine

/-- Settles O57: each part of the invariant through the CPU's half, then through the dot. -/
theorem stepKeepsInvariant : Obligations.StepKeepsInvariant :=
  fun _ _ inv h => inv.step h

/-- Settles O56: the invariants are the ranges of a legal `RESET`, and the reset machine is the power-up with the spec's. -/
theorem powerUpMeetsInvariants : Obligations.PowerUpMeetsInvariants :=
  ⟨powerUp_inv legal_spec (by decide) reset_memory, legal_spec,
    fun _ _ _ _ _ _ _ legal banks memory => powerUp_inv legal banks memory⟩

end Sys2Proof.Proofs
end

section
/-! What executing an instruction can do to `IME` and the invalid flag: but for five named instructions and the undefined
opcodes, every row of the opcode map ends in a quiet change; and the statements about them. -/

namespace Sys2Proof.Machine

/-! ## Instructions that end in a quiet change -/

/-- The result is the end of an instruction whose effect is quiet. -/
def EndsQuietly (s : State) (r : Result) : Prop := ∃ cost t, r = finish cost t ∧ Quiet s t

theorem Quiet.ends {s t : State} (h : Quiet s t) (cost : Nat) : EndsQuietly s (finish cost t) := ⟨cost, t, rfl, h⟩

section Consequences

variable {s t : State} {r : Result}

theorem EndsQuietly.ime (h : EndsQuietly s r) (ht : r = .next t) : t.cpu.ime = s.cpu.ime := by
  obtain ⟨cost, u, hr, quiet⟩ := h
  cases hr.symm.trans ht
  exact quiet.ime

theorem EndsQuietly.invalid (h : EndsQuietly s r) (ht : r = .next t) : t.bus.invalid = s.bus.invalid := by
  obtain ⟨cost, u, hr, quiet⟩ := h
  cases hr.symm.trans ht
  exact quiet.keeps.invalid

theorem EndsQuietly.after (quiet : Quiet s t) (h : EndsQuietly t r) : EndsQuietly s r := by
  obtain ⟨cost, u, hr, quiet'⟩ := h
  exact ⟨cost, u, hr, quiet.trans quiet'⟩

/-- A conditional instruction, taken or not. -/
theorem endsQuietly_ite {c : Prop} [Decidable c] {taken untaken : State} (cost cost' : Nat) (h : Quiet s taken)
    (h' : Quiet s untaken) : EndsQuietly s (if c then finish cost taken else finish cost' untaken) := by
  split
  · exact h.ends cost
  · exact h'.ends cost'

end Consequences

/-! ## The extended table (46_cb_extended.md R315) -/

theorem fieldY_lt (op : Byte) : fieldY op < 8 := Nat.mod_lt _ (by decide)

/-- The row that the extended table selects is executed as its second byte says. -/
theorem exec_decodeExt (op2 : Byte) (s : State) : exec (decodeExt op2) s = opExtended op2 s := by
  have quadrant := fieldX_lt op2
  obtain h | h | h | h : fieldX op2 = 0 ∨ fieldX op2 = 1 ∨ fieldX op2 = 2 ∨ fieldX op2 = 3 := by omega
  · simp only [decodeExt, opExtended, h]
    exact exec_rot _ _ s
  · simp only [decodeExt, opExtended, h]
    exact exec_bit ⟨fieldY op2, fieldY_lt op2⟩ _ s
  · simp only [decodeExt, opExtended, h]
    exact exec_res ⟨fieldY op2, fieldY_lt op2⟩ _ s
  · simp only [decodeExt, opExtended, h]
    exact exec_set ⟨fieldY op2, fieldY_lt op2⟩ _ s

theorem opExtended_endsQuietly (op2 : Byte) (s : State) : EndsQuietly s (opExtended op2 s) := by
  unfold opExtended
  split
  · exact ((quiet_setFlags _ _).trans (quiet_writeSlot _ _ _)).ends _
  · exact (quiet_setFlags _ _).ends _
  · exact (quiet_writeSlot _ _ _).ends _
  · exact (quiet_writeSlot _ _ _).ends _

/-! ## The rows of the opcode map (30_encoding.md R149 to R152) -/

/-- The instructions whose effect is on the CPU's control state. -/
def controlInstrs : List Instr := [.stop, .halt, .di, .ei, .reti]

/-- The undefined opcodes (R155). -/
def undefinedInstrs : List Instr :=
  [.illegalD3, .illegalDB, .illegalDD, .illegalE3, .illegalE4, .illegalEB, .illegalEC, .illegalED, .illegalF4, .illegalFC,
    .illegalFD]

/-- What one instruction can do: a quiet change, unless it is one of those named. -/
def QuietUnlessNamed (s : State) (i : Instr) : Prop :=
  EndsQuietly s (exec i s) ∨ i ∈ controlInstrs ∨ i ∈ undefinedInstrs

theorem quietUnlessNamed_decodeX0 (op b1 : Byte) (nn : Word) (s : State) : QuietUnlessNamed s (decodeX0 op b1 nn) := by
  unfold decodeX0
  split
  · split
    · exact .inl ((Quiet.refl s).ends _)
    · exact .inl (((quiet_busWrite _ _ _).trans (quiet_busWrite _ _ _)).ends _)
    · exact .inr (.inl (by simp [controlInstrs]))
    · exact .inl ((quiet_setPc _ _).ends _)
    · rw [QuietUnlessNamed, exec_jrCond]
      exact .inl (endsQuietly_ite _ _ (quiet_setPc _ _) (.refl s))
  · split
    · rw [QuietUnlessNamed, exec_ldPair]
      exact .inl ((quiet_writePair _ _ _).ends _)
    · rw [QuietUnlessNamed, exec_addHl]
      exact .inl (((quiet_setFlags _ _).trans (quiet_setHl _ _)).ends _)
  · split
    · exact .inl ((quiet_busWrite _ _ _).ends _)
    · exact .inl ((quiet_busWrite _ _ _).ends _)
    · exact .inl (((quiet_busWrite _ _ _).trans (quiet_setHl _ _)).ends _)
    · exact .inl (((quiet_busWrite _ _ _).trans (quiet_setHl _ _)).ends _)
    · exact .inl ((quiet_setReg _ .a _).ends _)
    · exact .inl ((quiet_setReg _ .a _).ends _)
    · exact .inl (((quiet_setReg _ .a _).trans (quiet_setHl _ _)).ends _)
    · exact .inl (((quiet_setReg _ .a _).trans (quiet_setHl _ _)).ends _)
  · split
    · rw [QuietUnlessNamed, exec_incPair]
      exact .inl ((quiet_writePair _ _ _).ends _)
    · rw [QuietUnlessNamed, exec_decPair]
      exact .inl ((quiet_writePair _ _ _).ends _)
  · rw [QuietUnlessNamed, exec_inc]
    exact .inl (((quiet_setFlags _ _).trans (quiet_writeSlot _ _ _)).ends _)
  · rw [QuietUnlessNamed, exec_dec]
    exact .inl (((quiet_setFlags _ _).trans (quiet_writeSlot _ _ _)).ends _)
  · rw [QuietUnlessNamed, exec_ldImm]
    exact .inl ((quiet_writeSlot _ _ _).ends _)
  · split
    · exact .inl (((quiet_setFlags _ _).trans (quiet_setReg _ .a _)).ends _)
    · exact .inl (((quiet_setFlags _ _).trans (quiet_setReg _ .a _)).ends _)
    · exact .inl (((quiet_setFlags _ _).trans (quiet_setReg _ .a _)).ends _)
    · exact .inl (((quiet_setFlags _ _).trans (quiet_setReg _ .a _)).ends _)
    · exact .inl (((quiet_setFlags _ _).trans (quiet_setReg _ .a _)).ends _)
    · exact .inl (((quiet_setFlags _ _).trans (quiet_setReg _ .a _)).ends _)
    · exact .inl ((quiet_setFlags _ _).ends _)
    · exact .inl ((quiet_setFlags _ _).ends _)

theorem quietUnlessNamed_decodeX3 (op b1 : Byte) (nn : Word) (s : State) : QuietUnlessNamed s (decodeX3 op b1 nn) := by
  unfold decodeX3
  split
  · split
    · exact .inl ((quiet_busWrite _ _ _).ends _)
    · exact .inl (((quiet_setFlags _ _).trans (quiet_setSp _ _)).ends _)
    · exact .inl ((quiet_setReg _ .a _).ends _)
    · exact .inl (((quiet_setFlags _ _).trans (quiet_setHl _ _)).ends _)
    · rw [QuietUnlessNamed, exec_retCond]
      exact .inl (endsQuietly_ite _ _ (quiet_returnTo _) (.refl s))
  · split
    · rw [QuietUnlessNamed, exec_pop]
      exact .inl (((quiet_popState _).trans (quiet_writeStackPair _ _ _)).ends _)
    · exact .inl ((quiet_returnTo _).ends _)
    · exact .inr (.inl (by simp [controlInstrs]))
    · exact .inl ((quiet_setPc _ _).ends _)
    · exact .inl ((quiet_setSp _ _).ends _)
  · split
    · exact .inl ((quiet_busWrite _ _ _).ends _)
    · exact .inl ((quiet_busWrite _ _ _).ends _)
    · exact .inl ((quiet_setReg _ .a _).ends _)
    · exact .inl ((quiet_setReg _ .a _).ends _)
    · rw [QuietUnlessNamed, exec_jpCond]
      exact .inl (endsQuietly_ite _ _ (quiet_setPc _ _) (.refl s))
  · split
    case h_1 => exact .inl ((quiet_setPc _ _).ends _)
    case h_2 =>
      rw [QuietUnlessNamed, exec_decodeExt]
      exact .inl (opExtended_endsQuietly _ s)
    case h_7 => exact .inr (.inl (by simp [controlInstrs]))
    case h_8 => exact .inr (.inl (by simp [controlInstrs]))
    all_goals exact .inr (.inr (by simp [undefinedInstrs]))
  · split
    case h_5 =>
      rw [QuietUnlessNamed, exec_callCond]
      exact .inl (endsQuietly_ite _ _ (quiet_callTo _ _) (.refl s))
    all_goals exact .inr (.inr (by simp [undefinedInstrs]))
  · split
    case h_1 =>
      rw [QuietUnlessNamed, exec_push]
      exact .inl ((quiet_push16 _ _).ends _)
    case h_2 => exact .inl ((quiet_callTo _ _).ends _)
    all_goals exact .inr (.inr (by simp [undefinedInstrs]))
  · rw [QuietUnlessNamed, exec_aluImm]
    exact .inl ((quiet_aluWith _ _ _).ends _)
  · rw [QuietUnlessNamed, exec_rst ⟨fieldY op, fieldY_lt op⟩]
    exact .inl ((quiet_callTo _ _).ends _)

theorem quietUnlessNamed_decodeWindow (op b1 b2 : Byte) (s : State) :
    QuietUnlessNamed s (decodeWindow op b1 b2) := by
  unfold decodeWindow
  split
  · exact quietUnlessNamed_decodeX0 op b1 _ s
  · by_cases halt : Slot.ofField (fieldY op) = .hlInd ∧ Slot.ofField (fieldZ op) = .hlInd
    · rw [halt.1, halt.2]
      exact .inr (.inl (by simp [controlInstrs, Instr.ld]))
    · rw [QuietUnlessNamed, exec_ld _ _ halt]
      exact .inl ((quiet_writeSlot _ _ _).ends _)
  · rw [QuietUnlessNamed, exec_alu]
    exact .inl ((quiet_aluWith _ _ _).ends _)
  · exact quietUnlessNamed_decodeX3 op b1 _ s

/-! ## Every instruction -/

theorem eq_prefixCb_of_not_wellFormed {i : Instr} (h : i.wellFormed = false) : i = .prefixCb := by
  cases i
  case prefixCb => rfl
  all_goals cases h

/-- The row `PREFIX_CB` executes what its second byte selects (46_cb_extended.md R315). -/
theorem exec_prefixCb (s : State) : exec .prefixCb s = exec (decodeExt (busRead s s.cpu.pc)) (s.setPc (s.cpu.pc + 1#16)) :=
  (exec_decodeExt _ _).symm

/-- Every complete instruction stands in a row of the opcode map; the lone `PREFIX_CB` executes one of them. -/
theorem quietUnlessNamed (i : Instr) (s : State) : QuietUnlessNamed s i := by
  cases complete : i.wellFormed with
  | true =>
    obtain ⟨op, operands, -, row⟩ := decodeWindow_encode complete
    rw [← row []]
    exact quietUnlessNamed_decodeWindow op _ _ s
  | false =>
    rw [eq_prefixCb_of_not_wellFormed complete, QuietUnlessNamed, exec_prefixCb, exec_decodeExt]
    exact .inl ((opExtended_endsQuietly _ _).after (quiet_setPc s _))

/-- `STOP` and `HALT` leave `IME`. -/
theorem exec_stop_halt_ime {i : Instr} {s t : State} (h : i = .stop ∨ i = .halt) (ht : exec i s = .next t) :
    t.cpu.ime = s.cpu.ime := by
  rcases h with rfl | rfl
  · cases ht
    rfl
  · change opHalt s = .next t at ht
    unfold opHalt at ht
    split at ht
    · cases ht
      rfl
    · cases ht
      rfl

/-- An undefined opcode latches the invalid flag (47_system.md R343). -/
theorem exec_of_mem_undefinedInstrs {i : Instr} (h : i ∈ undefinedInstrs) (s : State) :
    exec i s = .next { s with bus.invalid := true } := by
  simp only [undefinedInstrs, List.mem_cons, List.not_mem_nil, or_false] at h
  rcases h with rfl | rfl | rfl | rfl | rfl | rfl | rfl | rfl | rfl | rfl | rfl
  all_goals rfl

theorem Runs.invalid {s t : State} {r : Result} (h : Runs s r) (ht : r = .next t) : t.bus.invalid = s.bus.invalid := by
  obtain ⟨u, hu, ran⟩ := h
  cases hu.symm.trans ht
  exact ran.keeps.invalid

/-- The control instructions leave the invalid flag. -/
theorem exec_invalid_of_mem_controlInstrs {i : Instr} (h : i ∈ controlInstrs) {s t : State} (ht : exec i s = .next t) :
    t.bus.invalid = s.bus.invalid := by
  simp only [controlInstrs, List.mem_cons, List.not_mem_nil, or_false] at h
  rcases h with rfl | rfl | rfl | rfl | rfl
  · exact (opStop_runs s).invalid ht
  · exact (opHalt_runs s).invalid ht
  · exact (opDi_runs s).invalid ht
  · exact (opEi_runs s).invalid ht
  · exact (opReti_runs s).invalid ht

/-- The first bytes that encode no instruction (30_encoding.md R155). -/
def undefinedBytes : List Byte :=
  [0xD3#8, 0xDB#8, 0xDD#8, 0xE3#8, 0xE4#8, 0xEB#8, 0xEC#8, 0xED#8, 0xF4#8, 0xFC#8, 0xFD#8]

theorem encode_of_mem_undefinedInstrs {i : Instr} (h : i ∈ undefinedInstrs) : ∃ op ∈ undefinedBytes, encode i = [op] := by
  simp only [undefinedInstrs, List.mem_cons, List.not_mem_nil, or_false] at h
  rcases h with rfl | rfl | rfl | rfl | rfl | rfl | rfl | rfl | rfl | rfl | rfl
  all_goals exact ⟨_, by simp [undefinedBytes], rfl⟩

theorem mem_undefinedBytes_of_decode {op : Byte} {operands rest : List Byte} {i : Instr}
    (h : decode (op :: operands) = .ok (i, rest)) (undef : i ∈ undefinedInstrs) : op ∈ undefinedBytes := by
  obtain ⟨byte, mem, code⟩ := encode_of_mem_undefinedInstrs undef
  have bytes := encode_append_of_decode h
  rw [code] at bytes
  cases bytes
  exact mem

/-! ## The second byte of an extended instruction, and `HALT` -/

theorem decode_extended (op2 : Byte) : decode [0xCB#8, op2] = .ok (decodeExt op2, []) := rfl

/-- An extended instruction has no effect on `PC`. -/
theorem opExtended_pc (op2 : Byte) (s : State) : ∃ t, opExtended op2 s = .next t ∧ t.cpu.pc = s.cpu.pc := by
  have slot : ∀ (t : State) (x : Slot) (v : Byte), (writeSlot t x v).cpu.pc = t.cpu.pc := fun t x v => by
    obtain ⟨-, -, -, -, -, pc, -⟩ := writeSlot_control t x v
    exact pc
  unfold opExtended
  split
  · exact ⟨_, rfl, slot _ _ _⟩
  · exact ⟨_, rfl, rfl⟩
  · exact ⟨_, rfl, slot _ _ _⟩
  · exact ⟨_, rfl, slot _ _ _⟩

theorem haltCondition_iff (s : State) :
    (!s.cpu.ime && pend s != 0#5) = true ↔ s.cpu.ime = false ∧ ∃ n, Pending s n := by
  rw [← pend_ne_zero_iff, Bool.and_eq_true, Bool.not_eq_true', bne_iff_ne]

theorem exec_halt_of_quirk {s : State} (h : s.cpu.ime = false ∧ ∃ n, Pending s n) :
    exec .halt s = finish 4 { s with cpu.haltBug := true } :=
  if_pos ((haltCondition_iff s).2 h)

theorem exec_halt_of_not_quirk {s : State} (h : ¬ (s.cpu.ime = false ∧ ∃ n, Pending s n)) :
    exec .halt s = finish 4 { s with cpu.halted := true } :=
  if_neg (mt (haltCondition_iff s).1 h)

/-- The registers, the flags, `SP` and `PC` of a CPU that differs in its control state only. -/
theorem kept_of_control_eq {s t : State} {halted stopped haltBug : Bool} {wait : Nat}
    (h : t.cpu = { s.cpu with halted := halted, stopped := stopped, haltBug := haltBug, wait := wait }) :
    KeptRegs s t [] ∧ t.cpu.f = s.cpu.f ∧ t.cpu.sp = s.cpu.sp ∧ t.cpu.pc = s.cpu.pc := by
  refine ⟨fun r _ => ?_, by rw [h], by rw [h], by rw [h]⟩
  cases r <;> simp [State.reg, h]

end Sys2Proof.Machine

namespace Sys2Proof.Proofs

open Sys2Proof Sys2Proof.Machine

/-- Settles O31: the second byte is decoded, and executed, by the same fields. -/
theorem prefixRunsSecondByte : Obligations.PrefixRunsSecondByte := by
  intro s
  obtain ⟨t, ht, pc⟩ := opExtended_pc (busRead s s.cpu.pc) (s.setPc (s.cpu.pc + 1#16))
  exact ⟨_, t, decode_extended _, exec_prefixCb s, ht, pc, rfl⟩

/-- Settles O33: what is decoded from another first byte is no undefined opcode, and all else leaves the flag. -/
theorem undefinedOpcodes : Obligations.UndefinedOpcodes := by
  refine ⟨fun i byte row => ?_, fun op b1 b2 i rest hdecode defined s t ht => ?_⟩
  · simp only [List.mem_cons, Prod.mk.injEq, List.not_mem_nil, or_false] at row
    rcases row with row | row | row | row | row | row | row | row | row | row | row
    all_goals
      obtain ⟨rfl, rfl⟩ := row
      exact ⟨rfl, fun s => rfl⟩
  · rcases quietUnlessNamed i s with quiet | control | undef
    · exact quiet.invalid ht
    · exact exec_invalid_of_mem_controlInstrs control ht
    · exact absurd (mem_undefinedBytes_of_decode hdecode undef) defined

/-- Settles O36: a quiet change leaves `IME`, and so do `STOP`, `HALT` and the undefined opcodes. -/
theorem masterEnableWriters : Obligations.MasterEnableWriters := by
  intro i s t ht others
  rcases quietUnlessNamed i s with quiet | control | undef
  · exact quiet.ime ht
  · refine exec_stop_halt_ime ?_ ht
    simp only [controlInstrs, List.mem_cons, List.not_mem_nil, or_false] at control others
    tauto
  · rw [exec_of_mem_undefinedInstrs undef] at ht
    cases ht
    rfl

/-- Settles O32: each ends in at most one bit of the control state set. -/
theorem nopHaltStop : Obligations.NopHaltStop := by
  intro s
  refine ⟨?_, ?_, ?_⟩
  · obtain ⟨frame, outside⟩ := frame_wait s 3
    exact ⟨_, rfl, rfl, frame, outside, rfl, rfl⟩
  · by_cases quirk : s.cpu.ime = false ∧ ∃ n, Pending s n
    · have ht := exec_halt_of_quirk quirk
      obtain ⟨regs, flags, sp, pc⟩ := kept_of_control_eq (s := s) (t := { s with cpu.haltBug := true, cpu.wait := 3 }) rfl
      exact ⟨_, ht, fun _ => ⟨rfl, rfl⟩, fun h => absurd quirk h, rfl, rfl, rfl, regs, flags, sp, pc,
        keptOutside_of_eq rfl rfl rfl rfl, rfl, rfl⟩
    · have ht := exec_halt_of_not_quirk quirk
      obtain ⟨regs, flags, sp, pc⟩ := kept_of_control_eq (s := s) (t := { s with cpu.halted := true, cpu.wait := 3 }) rfl
      exact ⟨_, ht, fun h => absurd h quirk, fun _ => ⟨rfl, rfl⟩, rfl, rfl, rfl, regs, flags, sp, pc,
        keptOutside_of_eq rfl rfl rfl rfl, rfl, rfl⟩
  · obtain ⟨regs, flags, sp, pc⟩ := kept_of_control_eq (s := s) (t := { s with cpu.stopped := true, cpu.wait := 3 }) rfl
    exact ⟨_, rfl, rfl, rfl, rfl, rfl, rfl, regs, flags, sp, pc, keptOutside_of_eq rfl rfl rfl rfl, rfl, rfl⟩

end Sys2Proof.Proofs
end

section
/-! A CPU tick that executes nothing, the interrupt that is entered, and the statements about them (60_exceptions.md R362 to
R366, R400, R401). -/

namespace Sys2Proof.Machine

/-! ## Ticks by the CPU's state (R400, R401) -/

section Ticks

variable {s : State}

theorem step_of_cpuPhase {u : State} (h : cpuPhase (countTick s) = .next u) :
    step s = .next (timerTick (ppuDot u)) := by
  simp only [step, busStep, h, afterCpu, finishTick]

theorem cpuPhase_of_stopped (h : s.cpu.stopped = true) : cpuPhase s = .next s := if_pos h

theorem cpuPhase_of_running (h : s.cpu.stopped = false) : cpuPhase s = cpuTick s := if_neg (by simp [h])

theorem cpuTick_of_invalid (h : s.bus.invalid = true) : cpuTick s = .next s := if_pos h

/-- A machine that nothing wakes, invalid or not. -/
theorem cpuTick_of_asleep (halted : s.cpu.halted = true) (asleep : ∀ n, ¬ Pending s n) : cpuTick s = .next s := by
  have none : pend s = 0#5 := by
    by_contra some
    obtain ⟨n, h⟩ := (pend_ne_zero_iff s).1 some
    exact asleep n h
  unfold cpuTick
  rw [if_pos halted, if_pos none, ite_self]

/-- A valid machine that is not halted, or that a pending source wakes. -/
theorem cpuTick_of_awake (valid : s.bus.invalid = false) (wakes : s.cpu.halted = true → ∃ n, Pending s n) :
    cpuTick s = cpuActive { s with cpu.halted := false } := by
  unfold cpuTick
  rw [if_neg (by simp [valid])]
  cases halted : s.cpu.halted with
  | true => rw [if_pos rfl, if_neg ((pend_ne_zero_iff s).2 (wakes halted))]
  | false => rw [if_neg (by simp), ← halted]

theorem cpuActive_of_waiting (h : 0 < s.cpu.wait) : cpuActive s = .next (s.setWait (s.cpu.wait - 1)) := if_pos h

theorem cpuActive_of_interrupt (idle : s.cpu.wait = 0) (enabled : s.cpu.ime = true) (some : ∃ n, Pending s n) :
    cpuActive s = .next (interruptEntry s) := by
  have due : interruptDue s = true := by
    simp [interruptDue, enabled, (pend_ne_zero_iff s).2 some]
  rw [cpuActive, if_neg (by omega), if_pos due]

/-- A tick in which a valid machine pays one of the ticks it owes. -/
theorem step_of_waiting (valid : s.bus.invalid = false) (running : s.cpu.stopped = false) (owes : 0 < s.cpu.wait)
    (wakes : s.cpu.halted = true → ∃ n, Pending s n) :
    step s = .next (timerTick (ppuDot
      { s with bus.tick := s.bus.tick + 1, cpu.wait := s.cpu.wait - 1, cpu.halted := false })) := by
  refine step_of_cpuPhase ?_
  rw [cpuPhase_of_running (s := countTick s) running, cpuTick_of_awake (s := countTick s) valid wakes]
  exact cpuActive_of_waiting (s := { countTick s with cpu.halted := false }) owes

end Ticks

/-! ## The source that is taken (R363, R366) -/

theorem getLsbD_pend (s : State) {k : Nat} (hk : k < 5) : (pend s).getLsbD k = true ↔ Pending s k := by
  simp [-BitVec.getLsbD_eq_getElem, pend, Pending, hk, BitVec.getLsbD_extractLsb']

/-- The lowest-numbered of the pending sources is the one whose bit no pending one is below (R366). -/
theorem lowest_bit : ∀ (p : BitVec 5) (n : Fin 5), p.getLsbD n = true → (∀ m < n, p.getLsbD m = false) →
    (IrqSource.lowest p).map IrqSource.bit = some n.val := by
  decide

theorem lowest_pend {s : State} {n : Nat} (pending : Pending s n) (first : ∀ m < n, ¬ Pending s m) :
    ∃ i, IrqSource.lowest (pend s) = some i ∧ i.bit = n := by
  have inRange : n < 5 := pending.1
  refine Option.map_eq_some_iff.1 (lowest_bit (pend s) ⟨n, inRange⟩ ((getLsbD_pend s inRange).2 pending) fun m below => ?_)
  exact Bool.eq_false_iff.2 (mt (getLsbD_pend s m.isLt).1 (first m below))

/-- The vectors by the numbers of the sources (R364). -/
theorem vectorOf_bit (v : Vectors) (i : IrqSource) :
    (i.bit = 0 → vectorOf v i = v.vblank) ∧ (i.bit = 1 → vectorOf v i = v.lcdStatus) ∧
      (i.bit = 2 → vectorOf v i = v.timer) ∧ (i.bit = 3 → vectorOf v i = v.serial) ∧
      (i.bit = 4 → vectorOf v i = v.joypad) := by
  cases i <;> simp [IrqSource.bit, vectorOf]

theorem vectorOf_spec (i : IrqSource) : vectorOf Config.spec.vector i = BitVec.ofNat 16 (0x0040 + 8 * i.bit) := by
  cases i <;> rfl

/-! ## Interrupt entry (R365) -/

/-- `PC` is pushed on the machine whose request is cleared. -/
theorem pushed_enterInterrupt {s : State} (hm : MemoryInv s) (i : IrqSource) :
    Pushed { s with bus := s.bus.clear i } (enterInterrupt i { s with cpu.halted := false }) s.cpu.pc := by
  have cleared : MemoryInv { s with bus := s.bus.clear i } := { hm with }
  have push := push16_withCpu { s with bus := s.bus.clear i }
    { s.cpu with halted := false, ime := false, eiPending := false } s.cpu.pc rfl
  have entry : enterInterrupt i { s with cpu.halted := false } =
      ((push16 { s with bus := s.bus.clear i, cpu.halted := false, cpu.ime := false, cpu.eiPending := false }
        s.cpu.pc).setPc (vectorOf s.cfg.vector i)).setWait 19 := rfl
  rw [push] at entry
  obtain ⟨-, stored⟩ := pushed_push16 cleared s.cpu.pc
  rw [entry]
  exact ⟨rfl, stored.withCpu _⟩

theorem cpuTick_of_pending {s : State} {n : Nat} (valid : s.bus.invalid = false) (idle : s.cpu.wait = 0)
    (enabled : s.cpu.ime = true) (pending : Pending s n) (first : ∀ m < n, ¬ Pending s m) :
    ∃ i, i.bit = n ∧ cpuTick s = .next (enterInterrupt i { s with cpu.halted := false }) := by
  obtain ⟨i, lowest, bit⟩ := lowest_pend pending first
  refine ⟨i, bit, ?_⟩
  have taken : interruptEntry { s with cpu.halted := false } = enterInterrupt i { s with cpu.halted := false } := by
    unfold interruptEntry
    rw [show pend { s with cpu.halted := false } = pend s from rfl, lowest]
  rw [cpuTick_of_awake valid fun _ => ⟨n, pending⟩, ← taken]
  exact cpuActive_of_interrupt (s := { s with cpu.halted := false }) idle enabled ⟨n, pending⟩

end Sys2Proof.Machine

namespace Sys2Proof.Proofs

open Sys2Proof Sys2Proof.Machine

/-- Settles O34: the three ways of a CPU phase that executes nothing. -/
theorem ticksWithoutExecution : Obligations.TicksWithoutExecution := by
  refine fun s => ⟨fun idle => step_of_cpuPhase ?_, fun halted asleep => step_of_cpuPhase ?_,
    fun valid running owes wakes => step_of_waiting valid running owes wakes⟩
  · cases stopped : s.cpu.stopped with
    | true => exact cpuPhase_of_stopped (s := countTick s) stopped
    | false =>
      have invalid : s.bus.invalid = true := idle.resolve_right (by simp [stopped])
      rw [cpuPhase_of_running (s := countTick s) stopped]
      exact cpuTick_of_invalid (s := countTick s) invalid
  · cases stopped : s.cpu.stopped with
    | true => exact cpuPhase_of_stopped (s := countTick s) stopped
    | false =>
      rw [cpuPhase_of_running (s := countTick s) stopped]
      exact cpuTick_of_asleep (s := countTick s) halted asleep

/-- Settles O35: the tick wakes the CPU, then enters the interrupt of the lowest pending source. -/
theorem interruptEntry : Obligations.InterruptEntry := by
  intro s n hm valid idle enabled pending first
  obtain ⟨i, rfl, ht⟩ := cpuTick_of_pending valid idle enabled pending first
  have cpu := enterInterrupt_cpu i { s with cpu.halted := false }
  have pc : (enterInterrupt i { s with cpu.halted := false }).cpu.pc = vectorOf s.cfg.vector i := by rw [cpu]
  obtain ⟨vblank, lcdStatus, timer, serial, joypad⟩ := vectorOf_bit s.cfg.vector i
  refine ⟨_, ht, pushed_enterInterrupt hm i, by rw [cpu], by rw [cpu], by rw [cpu], by rw [cpu], by rw [cpu], fun r _ => ?_, by rw [cpu], ?_, ?_⟩
  · cases r <;> simp [State.reg, cpu]
  · rw [Costs, cpu]
  · rw [pc]
    exact ⟨vblank, lcdStatus, timer, serial, joypad, fun spec => by rw [spec]; exact vectorOf_spec i⟩

end Sys2Proof.Proofs
end

section
/-! The parts of a drawing dot by what they compute: the sprites of a line, the merge of a sprite row, the pixel that is
popped, the address of a tile row (60_exceptions.md R425, R429, R433, R434). -/

namespace Sys2Proof.Machine

/-! ## The sprites of a line (R425) -/

/-- The entries that the search selects: the first ten of those that cover the line. -/
def Ppu.selected (p : Ppu) : List Nat := ((List.range 40).filter p.spriteOnLine).take 10

/-- The first dot of a visible line enters mode 2 and searches. -/
theorem Ppu.dotWork_of_first {p : Ppu} (visible : p.ly.toNat < 144) (first : p.dot = 0) :
    p.dotWork.advance.mode = .search ∧ p.dotWork.advance.lineSprites = p.selected := by
  have enter : p.reload.enterMode = { p.reload with mode := .search, lineSprites := p.selected } := by
    rw [p.reload_eq]
    unfold Ppu.enterMode
    rw [if_pos visible, if_pos first]
    rfl
  unfold Ppu.dotWork
  rw [enter, Ppu.drawPhase_of_not_draw (by simp)]
  unfold Ppu.compare
  rcases Ppu.advance_cases { p.reload with
    mode := .search, lineSprites := p.selected, coincidence := p.reload.lyc == p.reload.ly } with ⟨-, e⟩ | ⟨-, e⟩
  all_goals
    rw [e]
    exact ⟨rfl, rfl⟩

theorem Ppu.spriteOnLine_iff (p : Ppu) (i : Nat) : p.spriteOnLine i = true ↔
    (Cells.read p.oam (4 * i)).toNat ≤ p.ly.toNat + 16 ∧
      p.ly.toNat + 16 < (Cells.read p.oam (4 * i)).toNat + (if p.lcdc.getLsbD 2 then 16 else 8) := by
  unfold Ppu.spriteOnLine
  rw [Bool.and_eq_true, decide_eq_true_iff, decide_eq_true_iff]
  rfl

theorem Ppu.mem_covering (p : Ppu) (i : Nat) :
    i ∈ (List.range 40).filter p.spriteOnLine ↔ i < 40 ∧ p.spriteOnLine i = true := by
  rw [List.mem_filter, List.mem_range]

theorem Ppu.covering_sorted (p : Ppu) : ((List.range 40).filter p.spriteOnLine).Pairwise (· < ·) :=
  List.Pairwise.filter _ List.pairwise_lt_range

/-- An element of a sorted list that its first `n` elements leave out comes after `n` others. -/
theorem length_take_of_notMem {l : List Nat} (sorted : l.Pairwise (· < ·)) {n i : Nat} (mem : i ∈ l)
    (out : i ∉ l.take n) : (l.take n).length = n ∧ ∀ j ∈ l.take n, j < i := by
  rw [← List.take_append_drop n l] at mem sorted
  have later : i ∈ l.drop n := (List.mem_append.1 mem).resolve_left out
  refine ⟨?_, fun j early => (List.pairwise_append.1 sorted).2.2 j early i later⟩
  have rest : 0 < (l.drop n).length := List.length_pos_of_mem later
  rw [List.length_drop] at rest
  rw [List.length_take]
  omega

/-! ## The merge of a sprite row (R429) -/

theorem Pixel.merge_of_taken {s : Pixel} {px : BitVec 2} {attr : Byte} (free : s.sp = false) (shown : px ≠ 0#2)
    (wins : attr.getLsbD 7 = false ∨ s.color = 0#2) :
    s.merge px attr = { color := px, sp := true, prio := attr.getLsbD 7, pal := attr.getLsbD 4 } :=
  if_pos (by simpa [free, shown] using wins)

theorem Pixel.merge_of_kept {s : Pixel} {px : BitVec 2} {attr : Byte}
    (loses : s.sp = true ∨ px = 0#2 ∨ (attr.getLsbD 7 = true ∧ s.color ≠ 0#2)) : s.merge px attr = s := by
  refine if_neg ?_
  rcases loses with held | clear | ⟨behind, covered⟩
  · simp [held]
  · simp [clear]
  · rw [behind, beq_false_of_ne covered]
    simp

/-- A live slot meets the pixel of the row at its place. -/
theorem mergeRow_getElem?_of_some (attr : Byte) {q : List Pixel} {row : List (BitVec 2)} {j : Nat} {s : Pixel}
    {px : BitVec 2} (slot : q[j]? = some s) (pixel : row[j]? = some px) :
    (mergeRow attr q row)[j]? = some (s.merge px attr) := by
  induction q generalizing row j with
  | nil => cases slot
  | cons x q ih =>
    cases row with
    | nil => cases pixel
    | cons y row =>
      cases j with
      | zero =>
        cases slot
        cases pixel
        rfl
      | succ j => exact ih slot pixel

/-- The slots past the end of the row are kept. -/
theorem mergeRow_getElem?_of_none (attr : Byte) {q : List Pixel} {row : List (BitVec 2)} {j : Nat}
    (none : row[j]? = none) : (mergeRow attr q row)[j]? = q[j]? := by
  induction q generalizing row j with
  | nil => cases row <;> rfl
  | cons x q ih =>
    cases row with
    | nil => rfl
    | cons y row =>
      cases j with
      | zero => cases none
      | succ j => exact ih none

/-! ## The pixel that is popped (R434) -/

section Pop

variable {p : Ppu} {s : Pixel} {q : List Pixel}

theorem Ppu.popPixel_of_discard (hq : p.queue = s :: q) (discard : 0 < p.discard) :
    p.popPixel = { p with queue := q, discard := p.discard - 1 } := by
  simp only [Ppu.popPixel, hq, if_pos discard]

theorem Ppu.popPixel_of_output (hq : p.queue = s :: q) (output : p.discard = 0) :
    p.popPixel = { p with
      queue := q
      fb := Cells.write p.fb (fbIndex p.ly.toNat p.col) (paletteEntry (p.palette s) s.color)
      col := p.col + 1
      mode := if p.col + 1 = 160 then .hblank else p.mode } := by
  simp only [Ppu.popPixel, hq, if_neg (show ¬ 0 < p.discard by omega)]

theorem Ppu.palette_eq (p : Ppu) (s : Pixel) :
    p.palette s = if s.sp = false then p.bgp else if s.pal = true then p.obp1 else p.obp0 := by
  cases h : s.sp <;> simp [Ppu.palette, h]

end Pop

/-! ## The address of a tile row (R433) -/

theorem Ppu.tileRowAddr_of_unsigned {p : Ppu} (unsigned : p.lcdc.getLsbD 4 = true) :
    p.tileRowAddr = 16 * p.tileId.toNat + 2 * p.frow := if_pos unsigned

theorem Ppu.tileRowAddr_of_signed {p : Ppu} (signed : p.lcdc.getLsbD 4 = false) :
    (p.tileRowAddr : Int) = 0x1000 + 16 * p.tileId.toInt + 2 * p.frow := by
  have range := p.tileId.isLt
  have value := BitVec.toInt_eq_toNat_cond p.tileId
  unfold Ppu.tileRowAddr
  rw [signed]
  simp only [Bool.false_eq_true, if_false]
  split_ifs at value ⊢ <;> omega

end Sys2Proof.Machine

namespace Sys2Proof.Proofs

open Sys2Proof Sys2Proof.Machine

/-- Settles O49: the selected entries are the first ten of a sorted list, that of the covering ones. -/
theorem spriteSearch : Obligations.SpriteSearch := by
  intro s visible first
  have mem := fun i => (Ppu.mem_covering s.ppu i).trans (and_congr_right' (s.ppu.spriteOnLine_iff i))
  have sorted := s.ppu.covering_sorted
  obtain ⟨mode, sprites⟩ : (ppuDot s).ppu.mode = .search ∧ (ppuDot s).ppu.lineSprites = s.ppu.selected :=
    Ppu.dotWork_of_first visible first
  simp only [sprites]
  exact ⟨mode, List.length_take_le _ _, sorted.sublist (List.take_sublist _ _),
    fun i selected => (mem i).1 (List.mem_of_mem_take selected),
    fun i covers out => length_take_of_notMem sorted ((mem i).2 covers) out⟩

/-- Settles O50: slot by slot, where the row has a pixel and where it has none. -/
theorem spriteMerge : Obligations.SpriteMerge := by
  refine fun attr q row => ⟨mergeRow_length attr q row, fun j s slot => ⟨fun px pixel free shown wins => ?_,
    fun px pixel loses => ?_, fun none => (mergeRow_getElem?_of_none attr none).trans slot⟩⟩
  · rw [mergeRow_getElem?_of_some attr slot pixel, Pixel.merge_of_taken free shown wins]
  · rw [mergeRow_getElem?_of_some attr slot pixel, Pixel.merge_of_kept loses]

/-- Settles O51: the three ways of a pop. -/
theorem pixelOutput : Obligations.PixelOutput := by
  refine fun p canonical => ⟨Ppu.popPixel_of_empty, fun s q => Ppu.popPixel_of_discard, fun s q hq output => ?_⟩
  have read := Cells.read_write p.fb canonical (fbIndex p.ly.toNat p.col) (paletteEntry (p.palette s) s.color)
  rw [Ppu.popPixel_of_output hq output]
  refine ⟨?_, fun k other => (read k).trans (if_neg other), rfl, fun last => if_pos last, fun inside => if_neg inside, rfl⟩
  rw [← p.palette_eq s]
  exact (read _).trans (if_pos rfl)

/-- Settles O52: the unsigned and the signed form; a tile's index is below 256. -/
theorem tileRowAddresses : Obligations.TileRowAddresses := by
  refine fun p => ⟨Ppu.tileRowAddr_of_unsigned, Ppu.tileRowAddr_of_signed, fun row => ?_⟩
  cases form : p.lcdc.getLsbD 4 with
  | true =>
    have address := Ppu.tileRowAddr_of_unsigned form
    have range := p.tileId.isLt
    omega
  | false =>
    have address := Ppu.tileRowAddr_of_signed form
    have range : p.tileId.toInt < 128 := BitVec.toInt_lt (x := p.tileId)
    omega

end Sys2Proof.Proofs
end

section
/-! The copy that a write to the DMA register starts, and what each mapped register reads after a write (60_exceptions.md
R438, 10_state.md R40 to R56, R76). -/

namespace Sys2Proof.Machine

/-! ## The source of the copy (R438) -/

theorem dmaSource_toNat (v : Byte) {k : Nat} (hk : k < 160) :
    (mkWord v 0#8 + BitVec.ofNat 16 k).toNat = v.toNat * 256 + k := by
  have range := v.isLt
  have high : (mkWord v 0#8).toNat = v.toNat * 256 := by
    unfold mkWord
    rw [BitVec.toNat_append, Nat.shiftLeft_eq]
    simp
  rw [BitVec.toNat_add, high, BitVec.toNat_ofNat]
  omega

theorem dmaSource_eq (v : Byte) {k : Nat} (hk : k < 160) :
    mkWord v 0#8 + BitVec.ofNat 16 k = BitVec.ofNat 16 (v.toNat * 256 + k) := by
  have range := v.isLt
  refine BitVec.eq_of_toNat_eq ?_
  rw [dmaSource_toNat v hk, BitVec.toNat_ofNat]
  omega

/-! ## The copy, byte by byte -/

/-- A read of the `n`-th source is not changed by a write of the table's cells below `n`: a source inside the table is
the cell `n` itself. -/
theorem busRead_dmaSource {s : State} {v : Byte} {n : Nat} (hn : n < 160) {m : Memory}
    (same : Cells.read m n = Cells.read s.ppu.oam n) :
    busRead { s with ppu.oam := m } (mkWord v 0#8 + BitVec.ofNat 16 n) =
      busRead s (mkWord v 0#8 + BitVec.ofNat 16 n) := by
  have source := dmaSource_toNat v hn
  apply busRead_same
  case oam =>
    intro above below
    have cell : (mkWord v 0#8 + BitVec.ofNat 16 n).toNat - 0xFE00 = n := by omega
    rw [cell]
    exact ⟨rfl, same⟩
  case cart => exact fun _ => ⟨rfl, fun _ _ _ => rfl⟩
  case vram => exact fun _ _ => ⟨rfl, rfl⟩
  all_goals intros; rfl

/-- After `n` bytes the cells below `n` hold their sources and the others are as before. -/
structure DmaCopied (v : Byte) (s : State) (n : Nat) (m : Memory) : Prop where
  canonical : Cells.wf m
  copied : ∀ k < n, Cells.read m k = busRead s (mkWord v 0#8 + BitVec.ofNat 16 k)
  rest : ∀ k, n ≤ k → Cells.read m k = Cells.read s.ppu.oam k

theorem DmaCopied.write {v : Byte} {s : State} {n : Nat} {m : Memory} (h : DmaCopied v s n m) :
    DmaCopied v s (n + 1) (Cells.write m n (busRead s (mkWord v 0#8 + BitVec.ofNat 16 n))) := by
  have read := Cells.read_write m h.canonical n (busRead s (mkWord v 0#8 + BitVec.ofNat 16 n))
  refine ⟨Cells.write_wf m h.canonical _ _, fun k below => ?_, fun k above => ?_⟩
  · rw [read]
    split_ifs with last
    · rw [last]
    · exact h.copied k (by omega)
  · rw [read, if_neg (by omega)]
    exact h.rest k (by omega)

theorem foldl_dmaByte (v : Byte) {s : State} (canonical : Cells.wf s.ppu.oam) {n : Nat} (hn : n ≤ 160) :
    ∃ m, (List.range n).foldl (dmaByte v) s = { s with ppu.oam := m } ∧ DmaCopied v s n m := by
  induction n with
  | zero => exact ⟨s.ppu.oam, rfl, canonical, fun k below => absurd below (Nat.not_lt_zero k), fun _ _ => rfl⟩
  | succ n ih =>
    obtain ⟨m, copy, copied⟩ := ih (by omega)
    refine ⟨_, ?_, copied.write⟩
    rw [List.range_succ, List.foldl_concat, copy, ← busRead_dmaSource hn (copied.rest n le_rfl)]
    rfl

/-! ## The write to the DMA register -/

theorem busWrite_dma (s : State) (v : Byte) : busWrite s 0xFF46#16 v = dmaCopy v { s with ppu.dma := v } := rfl

/-- Storing the DMA register changes the read of its own address only. -/
theorem busRead_setDma (s : State) (v : Byte) {b : Word} (other : b.toNat ≠ 0xFF46) :
    busRead { s with ppu.dma := v } b = busRead s b := by
  apply busRead_same
  case reg => exact fun low high => s.ppu.regRead_regStore_ne 0xFF46 _ v (by decide) (by decide) low high other
  case cart => exact fun _ => ⟨rfl, fun _ _ _ => rfl⟩
  case vram => exact fun _ _ => ⟨rfl, rfl⟩
  case oam => exact fun _ _ => ⟨rfl, rfl⟩
  all_goals intros; rfl

theorem busRead_dma (s : State) : busRead s 0xFF46#16 = s.ppu.dma := busRead_reg (by decide) (by decide)

theorem busRead_busWrite_dma (s : State) (v : Byte) : busRead (busWrite s 0xFF46#16 v) 0xFF46#16 = v := by
  obtain ⟨m, copy⟩ := dmaCopy_eq v { s with ppu.dma := v }
  rw [busWrite_dma, copy]
  rfl

/-! ## The registers that store less than a byte (10_state.md R42, R48, R50) -/

theorem joyp_high : ∀ (sel : BitVec 2) (low : BitVec 4),
    (3#2 ++ sel ++ low : Byte).extractLsb' 4 4 = (3#2 ++ sel : BitVec 4) := by
  decide

theorem tac_stored : ∀ v : Byte, (0x1F#5 ++ v.extractLsb' 0 3 : Byte) = 0xF8#8 ||| (v &&& 0x07#8) := by
  decide

theorem iflag_stored : ∀ v : Byte, (7#3 ++ v.extractLsb' 0 5 : Byte) = 0xE0#8 ||| (v &&& 0x1F#8) := by
  decide

theorem stat_stored : ∀ (v : Byte) (same : BitVec 1) (mode : BitVec 2),
    (1#1 ++ v.extractLsb' 3 4 ++ same ++ mode : Byte) = 0x80#8 ||| (v &&& 0x78#8) ||| (0#5 ++ same ++ mode) := by
  decide

theorem stat_low : ∀ (enables : BitVec 4) (same : BitVec 1) (mode : BitVec 2),
    (1#1 ++ enables ++ same ++ mode : Byte) &&& 0x07#8 = 0#5 ++ same ++ mode := by
  decide

theorem busRead_busWrite_joyp (s : State) (v : Byte) :
    (busRead (busWrite s 0xFF00#16 v) 0xFF00#16).extractLsb' 4 4 = 0b11#2 ++ v.extractLsb' 4 2 := joyp_high _ _

/-- The enable bits of `STAT` are stored; the coincidence flag and the mode are read-only. -/
theorem busRead_busWrite_stat (s : State) (v : Byte) : busRead (busWrite s 0xFF41#16 v) 0xFF41#16 =
    0x80#8 ||| (v &&& 0x78#8) ||| (busRead s 0xFF41#16 &&& 0x07#8) := by
  have stored : busRead (busWrite s 0xFF41#16 v) 0xFF41#16 =
      1#1 ++ v.extractLsb' 3 4 ++ BitVec.ofBool s.ppu.coincidence ++ s.ppu.mode.bits := rfl
  rw [stored, stat_stored, busRead_stat, Ppu.statRead, stat_low]

end Sys2Proof.Machine

namespace Sys2Proof.Proofs

open Sys2Proof Sys2Proof.Machine

/-- Settles O46: byte `k` is read when only the cells below `k` are written, on the machine whose DMA register already
holds the value. -/
theorem dmaCopies : Obligations.DmaCopies := by
  intro s v hm
  obtain ⟨m, copy, copied⟩ := foldl_dmaByte v (s := { s with ppu.dma := v }) hm.oam.1 (le_refl 160)
  have written : busWrite s 0xFF46#16 v = { s with ppu.dma := v, ppu.oam := m } := copy
  simp only [written]
  refine ⟨fun k hk => (copied.copied k hk).trans ?_, trivial⟩
  have source := dmaSource_toNat v hk
  split_ifs with own
  · obtain ⟨rfl, rfl⟩ := own
    exact busRead_dma _
  · rw [← dmaSource_eq v hk]
    refine busRead_setDma s v fun register => own ?_
    have page : v.toNat = 0xFF := by omega
    exact ⟨BitVec.eq_of_toNat_eq page, by omega⟩

/-- Settles O41: address by address; the registers that hold the byte as it is written read back by definition. -/
theorem registersReadBack : Obligations.RegistersReadBack := by
  intro s v
  exact ⟨busRead_busWrite_joyp s v, rfl, rfl, rfl, tac_stored v, iflag_stored v, rfl, rfl, rfl, busRead_busWrite_stat s v,
    rfl, rfl, rfl, rfl, busRead_busWrite_dma s v, rfl, rfl, rfl, rfl, rfl⟩

end Sys2Proof.Proofs
end

section
/-! The host's operations that run the machine: an instruction takes the ticks it owes, a frame the steps its budget has left
(60_exceptions.md R401, R444, R446). -/

namespace Sys2Proof.Machine

/-! ## One step of a loop (R444, R446) -/

section Loop

variable {s t : State} (atEnd : State → Bool) (n : Nat)

theorem runLoop_of_invalid (h : step s = .next t) (invalid : t.bus.invalid = true) :
    runLoop atEnd (n + 1) s = .failure t .invalidOpcode := by
  simp only [runLoop, h, if_pos invalid]

theorem runLoop_of_valid (h : step s = .next t) (valid : t.bus.invalid = false) :
    runLoop atEnd (n + 1) s = if atEnd t = true then .success t else runLoop atEnd n t := by
  simp only [runLoop, h, valid, Bool.false_eq_true, if_false]

end Loop

/-! ## The ticks owed (R401) -/

/-- A tick that pays: the rest of the CPU is kept. -/
theorem step_pays {s : State} (valid : s.bus.invalid = false) (awake : s.cpu.halted = false)
    (running : s.cpu.stopped = false) (owes : 0 < s.cpu.wait) :
    ∃ t, step s = .next t ∧ t.cpu = { s.cpu with wait := s.cpu.wait - 1 } ∧ t.bus.tick = s.bus.tick + 1 ∧
      t.bus.invalid = false := by
  have paid := step_of_waiting valid running owes (by simp [awake])
  refine ⟨_, paid, ?_, step_tick paid, ?_⟩
  all_goals
    obtain ⟨f, dot⟩ := ppuDot_eq
      { s with bus.tick := s.bus.tick + 1, cpu.wait := s.cpu.wait - 1, cpu.halted := false }
    obtain ⟨div, tima, iflag, timer⟩ := timerTick_eq (ppuDot
      { s with bus.tick := s.bus.tick + 1, cpu.wait := s.cpu.wait - 1, cpu.halted := false })
    rw [timer, dot]
  · rw [← awake]
  · exact valid

/-- A running machine that owes ticks has paid them after as many steps. -/
theorem runLoop_pays {wait fuel : Nat} {s : State} (owed : s.cpu.wait = wait + 1) (enough : wait < fuel)
    (valid : s.bus.invalid = false) (awake : s.cpu.halted = false) (running : s.cpu.stopped = false) :
    ∃ u, runLoop (fun t => t.cpu.wait == 0) fuel s = .success u ∧ u.bus.tick = s.bus.tick + (wait + 1) ∧
      u.cpu = { s.cpu with wait := 0 } := by
  induction wait generalizing fuel s with
  | zero =>
    obtain ⟨fuel, rfl⟩ := Nat.exists_eq_add_of_lt enough
    obtain ⟨t, h, cpu, tick, valid'⟩ := step_pays valid awake running (owed ▸ Nat.succ_pos _)
    rw [owed] at cpu
    refine ⟨t, ?_, tick, cpu⟩
    rw [runLoop_of_valid _ _ h valid', cpu]
    rfl
  | succ wait ih =>
    obtain ⟨fuel, rfl⟩ := Nat.exists_eq_add_of_lt enough
    obtain ⟨t, h, cpu, tick, valid'⟩ := step_pays valid awake running (owed ▸ Nat.succ_pos _)
    rw [owed, Nat.add_sub_cancel] at cpu
    obtain ⟨u, loop, ticks, cpu'⟩ := ih (s := t) (fuel := wait + 1 + fuel) (by rw [cpu]) (by omega) valid'
      (by rw [cpu, awake]) (by rw [cpu, running])
    refine ⟨u, ?_, by omega, by rw [cpu', cpu]⟩
    rw [runLoop_of_valid _ _ h valid', cpu]
    exact loop

/-! ## The frame budget (R424, R446) -/

/-- Every step takes one from the budget, which is reloaded first where it is 0. -/
theorem step_frameBudget {s t : State} (h : step s = .next t) : t.ppu.frameBudget = frameSteps s - 1 := by
  obtain ⟨u, div, tima, iflag, ticked, rfl⟩ := step_halves h
  have same : u.ppu.frameBudget = s.ppu.frameBudget := ticked.keeps.frameBudget
  obtain ⟨-, -, budget⟩ := u.ppu.dotWork_place
  rw [same] at budget
  show u.ppu.dotWork.advance.frameBudget = frameSteps s - 1
  rw [frameSteps, ← budget]
  rcases u.ppu.dotWork.advance_cases with ⟨-, e⟩ | ⟨-, e⟩ <;> rw [e]

theorem frameSteps_pos (s : State) : 0 < frameSteps s := by
  unfold frameSteps
  split_ifs <;> omega

/-- The loop of `RunFrame` ends with the budget, or before it as invalid. -/
theorem runLoop_frame {n : Nat} {s : State} (steps : frameSteps s = n) :
    (∃ t, runLoop (fun t => t.ppu.frameBudget == 0) n s = .success t ∧ t.ppu.frameBudget = 0 ∧
      t.bus.invalid = false ∧ t.bus.tick = s.bus.tick + n) ∨
    (∃ t, runLoop (fun t => t.ppu.frameBudget == 0) n s = .failure t .invalidOpcode ∧ t.bus.invalid = true) := by
  induction n generalizing s with
  | zero => exact absurd steps (frameSteps_pos s).ne'
  | succ n ih =>
    obtain ⟨t, h⟩ := step_next s
    have tick := step_tick h
    have budget : t.ppu.frameBudget = n := by rw [step_frameBudget h, steps, Nat.add_sub_cancel]
    cases invalid : t.bus.invalid with
    | true => exact .inr ⟨t, runLoop_of_invalid _ _ h invalid, invalid⟩
    | false =>
      rw [runLoop_of_valid _ _ h invalid, budget]
      cases n with
      | zero => exact .inl ⟨t, rfl, budget, invalid, tick⟩
      | succ n =>
        have steps' : frameSteps t = n + 1 := by rw [frameSteps, budget, if_neg n.succ_ne_zero]
        refine (ih steps').imp_left ?_
        rintro ⟨u, loop, done, valid, ticks⟩
        exact ⟨u, loop, done, valid, by omega⟩

end Sys2Proof.Machine

namespace Sys2Proof.Proofs

open Sys2Proof Sys2Proof.Machine

/-- Settles O58: the first step, then the ticks owed, each of which pays one. -/
theorem runInstructionTakesItsCost : Obligations.RunInstructionTakesItsCost := by
  intro s t fuel h valid valid' awake running enough
  have tick := step_tick h
  rw [runInstruction, if_neg (by simp [valid])]
  obtain ⟨fuel, rfl⟩ := Nat.exists_eq_succ_of_ne_zero (Nat.ne_zero_of_lt enough)
  rw [Nat.succ_eq_add_one, runLoop_of_valid _ _ h valid']
  cases owed : t.cpu.wait with
  | zero => exact ⟨t, rfl, tick, by rw [← owed]⟩
  | succ wait =>
    obtain ⟨u, loop, ticks, cpu⟩ := runLoop_pays (fuel := fuel) owed (by omega) valid' awake running
    exact ⟨u, loop, by omega, cpu⟩

/-- Settles O59: induction on the steps that the budget has left. -/
theorem runFrameTerminates : Obligations.RunFrameTerminates := by
  intro s
  cases invalid : s.bus.invalid with
  | true => exact .inr ⟨s, if_pos invalid, invalid⟩
  | false =>
    rw [runFrame, if_neg (by simp [invalid])]
    exact runLoop_frame rfl

end Sys2Proof.Proofs
end
